-- ==== Sys2Proof/Word.lean ====
section
/-! DEFINITION. The two word types of the block (R6: 8-bit registers, 16-bit PC, SP and addresses). -/

namespace Sys2Proof

/-- An 8-bit value: a register, a memory byte, an opcode byte (R6, R20). -/
abbrev Byte := BitVec 8

/-- A 16-bit value: PC, SP, a pair view, an address (R6, R22, R27, R28). -/
abbrev Word := BitVec 16

end Sys2Proof
end

