-- ==== Sys2Proof/Machine/Bytes.lean ====
section
/-! DEFINITION. Byte order, concatenation, extension and bit masks (R9, R10, R57): the helpers that the decoder,
the operand forms and the memory operations share. -/

namespace Sys2Proof

/-- `hi:lo`, that is `(hi << 8) | lo` (R9). -/
def wordOf (hi lo : Byte) : Word := hi ++ lo

/-- `v[15:8]` (R9). -/
def hiByte (v : Word) : Byte := v.extractLsb' 8 8

/-- `v[7:0]` (R9). -/
def loByte (v : Word) : Byte := v.extractLsb' 0 8

/-- `sext_16(v)`: the byte sign-extended to 16 bits (R10, R84). -/
def sext16 (v : Byte) : Word := v.signExtend 16

/-- The mask `1 << b` at the width of a byte (R181 to R186). -/
def bitMask (b : Fin 8) : Byte := 1#8 <<< b.val

/-- The high-page address `0xFF00 + n` (R84 kind a8, R199). -/
def highPage (n : Byte) : Word := wordOf 0xFF#8 n

end Sys2Proof
end

