-- ==== Sys2Proof/Machine/Codes.lean ====
section
/-! DEFINITION. The operand codes, conditions and operation codes that the two opcode maps are built from
(R86 to R90, R93, R99). -/

namespace Sys2Proof.Machine

/-- The seven registers of the `r8` axis (R86: codes 0, 1, 2, 3, 4, 5, 7). -/
inductive Reg8 where
  | b | c | d | e | h | l | a
deriving DecidableEq, Repr

/-- The `r8` operand: a register, or the memory byte at address HL (R86: code 6). -/
inductive Operand8 where
  | reg (r : Reg8)
  | atHl
deriving DecidableEq, Repr

/-- The pair code `r16` (R87). -/
inductive Pair where
  | bc | de | hl | sp
deriving DecidableEq, Repr

/-- The pair code `r16stk` of PUSH and POP (R88). -/
inductive StackPair where
  | bc | de | hl | af
deriving DecidableEq, Repr

/-- The pair code `r16mem` of `LD (rr),A` and `LD A,(rr)` (R89). -/
inductive MemPair where
  | bc | de | hlInc | hlDec
deriving DecidableEq, Repr

/-- The condition code `cc` (R90). -/
inductive Cond where
  | nz | z | nc | c
deriving DecidableEq, Repr

/-- The ALU operation code (R99). -/
inductive AluOp where
  | add | adc | sub | sbc | and | xor | or | cp
deriving DecidableEq, Repr

/-- The rotate and shift operation code of the CB table (R93). -/
inductive ShiftOp where
  | rlc | rrc | rl | rr | sla | sra | swap | srl
deriving DecidableEq, Repr

/-- The code 0 to 7 of an operand, in the order B, C, D, E, H, L, (HL), A (R86). -/
def Operand8.code : Operand8 → Nat
  | .reg .b => 0
  | .reg .c => 1
  | .reg .d => 2
  | .reg .e => 3
  | .reg .h => 4
  | .reg .l => 5
  | .atHl => 6
  | .reg .a => 7

/-- The operand a 3-bit code selects (R86). Total over the field (R272); 7 is the last arm. -/
def Operand8.ofCode : Nat → Operand8
  | 0 => .reg .b
  | 1 => .reg .c
  | 2 => .reg .d
  | 3 => .reg .e
  | 4 => .reg .h
  | 5 => .reg .l
  | 6 => .atHl
  | _ => .reg .a

/-- The pair a 2-bit `r16` code selects (R87). -/
def Pair.ofCode : Nat → Pair
  | 0 => .bc
  | 1 => .de
  | 2 => .hl
  | _ => .sp

/-- The pair a 2-bit `r16stk` code selects (R88). -/
def StackPair.ofCode : Nat → StackPair
  | 0 => .bc
  | 1 => .de
  | 2 => .hl
  | _ => .af

/-- The address form a 2-bit `r16mem` code selects (R89). -/
def MemPair.ofCode : Nat → MemPair
  | 0 => .bc
  | 1 => .de
  | 2 => .hlInc
  | _ => .hlDec

/-- The condition a 2-bit code selects (R90). -/
def Cond.ofCode : Nat → Cond
  | 0 => .nz
  | 1 => .z
  | 2 => .nc
  | _ => .c

/-- The ALU operation a 3-bit code selects (R99). -/
def AluOp.ofCode : Nat → AluOp
  | 0 => .add
  | 1 => .adc
  | 2 => .sub
  | 3 => .sbc
  | 4 => .and
  | 5 => .xor
  | 6 => .or
  | _ => .cp

/-- The rotate or shift a 3-bit code selects (R93). -/
def ShiftOp.ofCode : Nat → ShiftOp
  | 0 => .rlc
  | 1 => .rrc
  | 2 => .rl
  | 3 => .rr
  | 4 => .sla
  | 5 => .sra
  | 6 => .swap
  | _ => .srl

/-- The bit index or restart index a 3-bit code holds (R85, R93). -/
def octet (n : Nat) : Fin 8 := ⟨n % 8, Nat.mod_lt n (by decide)⟩

end Sys2Proof.Machine
end

