-- ==== Sys2Proof/Syntax.lean ====
section
/-! DEFINITION. The instructions: one constructor per row of spec/opcode_table.json (R92, R93): first the rows with an
immediate operand, then the others, each group in the table's order.
An argument `n` is a one-byte immediate (kinds d8, a8, e8), `nn` a two-byte immediate (kinds d16, a16) (R84).
Names follow the mnemonics: `AtHL` is the operand `(HL)`, `Imm` an immediate, `AtC` the high-page address
`0xFF00 + C`; `ldhAtImmA` is `LDH (a8),A`. -/

namespace Sys2Proof

/-- The instruction set (R91 to R94). -/
inductive Instr where
  /-- `LD BC,d16`, 01: R220 -/
  | ldBCImm (nn : Word)
  /-- `LD B,d8`, 06: R191 -/
  | ldBImm (n : Byte)
  /-- `LD (a16),SP`, 08: R221 -/
  | ldAtImmSP (nn : Word)
  /-- `LD C,d8`, 0E: R191 -/
  | ldCImm (n : Byte)
  /-- `LD DE,d16`, 11: R220 -/
  | ldDEImm (nn : Word)
  /-- `LD D,d8`, 16: R191 -/
  | ldDImm (n : Byte)
  /-- `JR e8`, 18: R236 -/
  | jr (n : Byte)
  /-- `LD E,d8`, 1E: R191 -/
  | ldEImm (n : Byte)
  /-- `JR NZ,e8`, 20: R237 -/
  | jrNZ (n : Byte)
  /-- `LD HL,d16`, 21: R220 -/
  | ldHLImm (nn : Word)
  /-- `LD H,d8`, 26: R191 -/
  | ldHImm (n : Byte)
  /-- `JR Z,e8`, 28: R237 -/
  | jrZ (n : Byte)
  /-- `LD L,d8`, 2E: R191 -/
  | ldLImm (n : Byte)
  /-- `JR NC,e8`, 30: R237 -/
  | jrNC (n : Byte)
  /-- `LD SP,d16`, 31: R220 -/
  | ldSPImm (nn : Word)
  /-- `LD (HL),d8`, 36: R194 -/
  | ldAtHLImm (n : Byte)
  /-- `JR C,e8`, 38: R237 -/
  | jrC (n : Byte)
  /-- `LD A,d8`, 3E: R191 -/
  | ldAImm (n : Byte)
  /-- `JP NZ,a16`, C2: R239 -/
  | jpNZ (nn : Word)
  /-- `JP a16`, C3: R238 -/
  | jp (nn : Word)
  /-- `CALL NZ,a16`, C4: R242 -/
  | callNZ (nn : Word)
  /-- `ADD A,d8`, C6: R113 -/
  | addAImm (n : Byte)
  /-- `JP Z,a16`, CA: R239 -/
  | jpZ (nn : Word)
  /-- `CALL Z,a16`, CC: R242 -/
  | callZ (nn : Word)
  /-- `CALL a16`, CD: R241 -/
  | call (nn : Word)
  /-- `ADC A,d8`, CE: R116 -/
  | adcAImm (n : Byte)
  /-- `JP NC,a16`, D2: R239 -/
  | jpNC (nn : Word)
  /-- `CALL NC,a16`, D4: R242 -/
  | callNC (nn : Word)
  /-- `SUB d8`, D6: R119 -/
  | subImm (n : Byte)
  /-- `JP C,a16`, DA: R239 -/
  | jpC (nn : Word)
  /-- `CALL C,a16`, DC: R242 -/
  | callC (nn : Word)
  /-- `SBC A,d8`, DE: R122 -/
  | sbcAImm (n : Byte)
  /-- `LDH (a8),A`, E0: R204 -/
  | ldhAtImmA (n : Byte)
  /-- `AND d8`, E6: R125 -/
  | andImm (n : Byte)
  /-- `ADD SP,e8`, E8: R154 -/
  | addSPImm (n : Byte)
  /-- `LD (a16),A`, EA: R208 -/
  | ldAtImmA (nn : Word)
  /-- `XOR d8`, EE: R128 -/
  | xorImm (n : Byte)
  /-- `LDH A,(a8)`, F0: R205 -/
  | ldhAAtImm (n : Byte)
  /-- `OR d8`, F6: R131 -/
  | orImm (n : Byte)
  /-- `LD HL,SP+e8`, F8: R224 -/
  | ldHLSPImm (n : Byte)
  /-- `LD A,(a16)`, FA: R209 -/
  | ldAAtImm (nn : Word)
  /-- `CP d8`, FE: R134 -/
  | cpImm (n : Byte)
  /-- `NOP`, 00: R255 -/
  | nop
  /-- `LD (BC),A`, 02: R197 -/
  | ldAtBCA
  /-- `INC BC`, 03: R151 -/
  | incBC
  /-- `INC B`, 04: R135 -/
  | incB
  /-- `DEC B`, 05: R137 -/
  | decB
  /-- `RLCA`, 07: R161 -/
  | rlca
  /-- `ADD HL,BC`, 09: R150 -/
  | addHLBC
  /-- `LD A,(BC)`, 0A: R195 -/
  | ldAAtBC
  /-- `DEC BC`, 0B: R152 -/
  | decBC
  /-- `INC C`, 0C: R135 -/
  | incC
  /-- `DEC C`, 0D: R137 -/
  | decC
  /-- `RRCA`, 0F: R162 -/
  | rrca
  /-- `STOP`, 10: R257 -/
  | stop
  /-- `LD (DE),A`, 12: R198 -/
  | ldAtDEA
  /-- `INC DE`, 13: R151 -/
  | incDE
  /-- `INC D`, 14: R135 -/
  | incD
  /-- `DEC D`, 15: R137 -/
  | decD
  /-- `RLA`, 17: R163 -/
  | rla
  /-- `ADD HL,DE`, 19: R150 -/
  | addHLDE
  /-- `LD A,(DE)`, 1A: R196 -/
  | ldAAtDE
  /-- `DEC DE`, 1B: R152 -/
  | decDE
  /-- `INC E`, 1C: R135 -/
  | incE
  /-- `DEC E`, 1D: R137 -/
  | decE
  /-- `RRA`, 1F: R164 -/
  | rra
  /-- `LD (HL+),A`, 22: R200 -/
  | ldAtHLIncA
  /-- `INC HL`, 23: R151 -/
  | incHL
  /-- `INC H`, 24: R135 -/
  | incH
  /-- `DEC H`, 25: R137 -/
  | decH
  /-- `DAA`, 27: R140 -/
  | daa
  /-- `ADD HL,HL`, 29: R150 -/
  | addHLHL
  /-- `LD A,(HL+)`, 2A: R202 -/
  | ldAAtHLInc
  /-- `DEC HL`, 2B: R152 -/
  | decHL
  /-- `INC L`, 2C: R135 -/
  | incL
  /-- `DEC L`, 2D: R137 -/
  | decL
  /-- `CPL`, 2F: R141 -/
  | cpl
  /-- `LD (HL-),A`, 32: R201 -/
  | ldAtHLDecA
  /-- `INC SP`, 33: R151 -/
  | incSP
  /-- `INC (HL)`, 34: R136 -/
  | incAtHL
  /-- `DEC (HL)`, 35: R138 -/
  | decAtHL
  /-- `SCF`, 37: R142 -/
  | scf
  /-- `ADD HL,SP`, 39: R150 -/
  | addHLSP
  /-- `LD A,(HL-)`, 3A: R203 -/
  | ldAAtHLDec
  /-- `DEC SP`, 3B: R152 -/
  | decSP
  /-- `INC A`, 3C: R135 -/
  | incA
  /-- `DEC A`, 3D: R137 -/
  | decA
  /-- `CCF`, 3F: R143 -/
  | ccf
  /-- `LD B,B`, 40: R190 -/
  | ldBB
  /-- `LD B,C`, 41: R190 -/
  | ldBC
  /-- `LD B,D`, 42: R190 -/
  | ldBD
  /-- `LD B,E`, 43: R190 -/
  | ldBE
  /-- `LD B,H`, 44: R190 -/
  | ldBH
  /-- `LD B,L`, 45: R190 -/
  | ldBL
  /-- `LD B,(HL)`, 46: R192 -/
  | ldBAtHL
  /-- `LD B,A`, 47: R190 -/
  | ldBA
  /-- `LD C,B`, 48: R190 -/
  | ldCB
  /-- `LD C,C`, 49: R190 -/
  | ldCC
  /-- `LD C,D`, 4A: R190 -/
  | ldCD
  /-- `LD C,E`, 4B: R190 -/
  | ldCE
  /-- `LD C,H`, 4C: R190 -/
  | ldCH
  /-- `LD C,L`, 4D: R190 -/
  | ldCL
  /-- `LD C,(HL)`, 4E: R192 -/
  | ldCAtHL
  /-- `LD C,A`, 4F: R190 -/
  | ldCA
  /-- `LD D,B`, 50: R190 -/
  | ldDB
  /-- `LD D,C`, 51: R190 -/
  | ldDC
  /-- `LD D,D`, 52: R190 -/
  | ldDD
  /-- `LD D,E`, 53: R190 -/
  | ldDE
  /-- `LD D,H`, 54: R190 -/
  | ldDH
  /-- `LD D,L`, 55: R190 -/
  | ldDL
  /-- `LD D,(HL)`, 56: R192 -/
  | ldDAtHL
  /-- `LD D,A`, 57: R190 -/
  | ldDA
  /-- `LD E,B`, 58: R190 -/
  | ldEB
  /-- `LD E,C`, 59: R190 -/
  | ldEC
  /-- `LD E,D`, 5A: R190 -/
  | ldED
  /-- `LD E,E`, 5B: R190 -/
  | ldEE
  /-- `LD E,H`, 5C: R190 -/
  | ldEH
  /-- `LD E,L`, 5D: R190 -/
  | ldEL
  /-- `LD E,(HL)`, 5E: R192 -/
  | ldEAtHL
  /-- `LD E,A`, 5F: R190 -/
  | ldEA
  /-- `LD H,B`, 60: R190 -/
  | ldHB
  /-- `LD H,C`, 61: R190 -/
  | ldHC
  /-- `LD H,D`, 62: R190 -/
  | ldHD
  /-- `LD H,E`, 63: R190 -/
  | ldHE
  /-- `LD H,H`, 64: R190 -/
  | ldHH
  /-- `LD H,L`, 65: R190 -/
  | ldHL
  /-- `LD H,(HL)`, 66: R192 -/
  | ldHAtHL
  /-- `LD H,A`, 67: R190 -/
  | ldHA
  /-- `LD L,B`, 68: R190 -/
  | ldLB
  /-- `LD L,C`, 69: R190 -/
  | ldLC
  /-- `LD L,D`, 6A: R190 -/
  | ldLD
  /-- `LD L,E`, 6B: R190 -/
  | ldLE
  /-- `LD L,H`, 6C: R190 -/
  | ldLH
  /-- `LD L,L`, 6D: R190 -/
  | ldLL
  /-- `LD L,(HL)`, 6E: R192 -/
  | ldLAtHL
  /-- `LD L,A`, 6F: R190 -/
  | ldLA
  /-- `LD (HL),B`, 70: R193 -/
  | ldAtHLB
  /-- `LD (HL),C`, 71: R193 -/
  | ldAtHLC
  /-- `LD (HL),D`, 72: R193 -/
  | ldAtHLD
  /-- `LD (HL),E`, 73: R193 -/
  | ldAtHLE
  /-- `LD (HL),H`, 74: R193 -/
  | ldAtHLH
  /-- `LD (HL),L`, 75: R193 -/
  | ldAtHLL
  /-- `HALT`, 76: R256 -/
  | halt
  /-- `LD (HL),A`, 77: R193 -/
  | ldAtHLA
  /-- `LD A,B`, 78: R190 -/
  | ldAB
  /-- `LD A,C`, 79: R190 -/
  | ldAC
  /-- `LD A,D`, 7A: R190 -/
  | ldAD
  /-- `LD A,E`, 7B: R190 -/
  | ldAE
  /-- `LD A,H`, 7C: R190 -/
  | ldAH
  /-- `LD A,L`, 7D: R190 -/
  | ldAL
  /-- `LD A,(HL)`, 7E: R192 -/
  | ldAAtHL
  /-- `LD A,A`, 7F: R190 -/
  | ldAA
  /-- `ADD A,B`, 80: R111 -/
  | addAB
  /-- `ADD A,C`, 81: R111 -/
  | addAC
  /-- `ADD A,D`, 82: R111 -/
  | addAD
  /-- `ADD A,E`, 83: R111 -/
  | addAE
  /-- `ADD A,H`, 84: R111 -/
  | addAH
  /-- `ADD A,L`, 85: R111 -/
  | addAL
  /-- `ADD A,(HL)`, 86: R112 -/
  | addAAtHL
  /-- `ADD A,A`, 87: R111 -/
  | addAA
  /-- `ADC A,B`, 88: R114 -/
  | adcAB
  /-- `ADC A,C`, 89: R114 -/
  | adcAC
  /-- `ADC A,D`, 8A: R114 -/
  | adcAD
  /-- `ADC A,E`, 8B: R114 -/
  | adcAE
  /-- `ADC A,H`, 8C: R114 -/
  | adcAH
  /-- `ADC A,L`, 8D: R114 -/
  | adcAL
  /-- `ADC A,(HL)`, 8E: R115 -/
  | adcAAtHL
  /-- `ADC A,A`, 8F: R114 -/
  | adcAA
  /-- `SUB B`, 90: R117 -/
  | subB
  /-- `SUB C`, 91: R117 -/
  | subC
  /-- `SUB D`, 92: R117 -/
  | subD
  /-- `SUB E`, 93: R117 -/
  | subE
  /-- `SUB H`, 94: R117 -/
  | subH
  /-- `SUB L`, 95: R117 -/
  | subL
  /-- `SUB (HL)`, 96: R118 -/
  | subAtHL
  /-- `SUB A`, 97: R117 -/
  | subA
  /-- `SBC A,B`, 98: R120 -/
  | sbcAB
  /-- `SBC A,C`, 99: R120 -/
  | sbcAC
  /-- `SBC A,D`, 9A: R120 -/
  | sbcAD
  /-- `SBC A,E`, 9B: R120 -/
  | sbcAE
  /-- `SBC A,H`, 9C: R120 -/
  | sbcAH
  /-- `SBC A,L`, 9D: R120 -/
  | sbcAL
  /-- `SBC A,(HL)`, 9E: R121 -/
  | sbcAAtHL
  /-- `SBC A,A`, 9F: R120 -/
  | sbcAA
  /-- `AND B`, A0: R123 -/
  | andB
  /-- `AND C`, A1: R123 -/
  | andC
  /-- `AND D`, A2: R123 -/
  | andD
  /-- `AND E`, A3: R123 -/
  | andE
  /-- `AND H`, A4: R123 -/
  | andH
  /-- `AND L`, A5: R123 -/
  | andL
  /-- `AND (HL)`, A6: R124 -/
  | andAtHL
  /-- `AND A`, A7: R123 -/
  | andA
  /-- `XOR B`, A8: R126 -/
  | xorB
  /-- `XOR C`, A9: R126 -/
  | xorC
  /-- `XOR D`, AA: R126 -/
  | xorD
  /-- `XOR E`, AB: R126 -/
  | xorE
  /-- `XOR H`, AC: R126 -/
  | xorH
  /-- `XOR L`, AD: R126 -/
  | xorL
  /-- `XOR (HL)`, AE: R127 -/
  | xorAtHL
  /-- `XOR A`, AF: R126 -/
  | xorA
  /-- `OR B`, B0: R129 -/
  | orB
  /-- `OR C`, B1: R129 -/
  | orC
  /-- `OR D`, B2: R129 -/
  | orD
  /-- `OR E`, B3: R129 -/
  | orE
  /-- `OR H`, B4: R129 -/
  | orH
  /-- `OR L`, B5: R129 -/
  | orL
  /-- `OR (HL)`, B6: R130 -/
  | orAtHL
  /-- `OR A`, B7: R129 -/
  | orA
  /-- `CP B`, B8: R132 -/
  | cpB
  /-- `CP C`, B9: R132 -/
  | cpC
  /-- `CP D`, BA: R132 -/
  | cpD
  /-- `CP E`, BB: R132 -/
  | cpE
  /-- `CP H`, BC: R132 -/
  | cpH
  /-- `CP L`, BD: R132 -/
  | cpL
  /-- `CP (HL)`, BE: R133 -/
  | cpAtHL
  /-- `CP A`, BF: R132 -/
  | cpA
  /-- `RET NZ`, C0: R244 -/
  | retNZ
  /-- `POP BC`, C1: R229 -/
  | popBC
  /-- `PUSH BC`, C5: R227 -/
  | pushBC
  /-- `RST 00H`, C7: R245 -/
  | rst00
  /-- `RET Z`, C8: R244 -/
  | retZ
  /-- `RET`, C9: R243 -/
  | ret
  /-- `PREFIX CB`, CB: R258 -/
  | prefixCb
  /-- `RST 08H`, CF: R245 -/
  | rst08
  /-- `RET NC`, D0: R244 -/
  | retNC
  /-- `POP DE`, D1: R229 -/
  | popDE
  /-- `RESERVED_D3`, D3: R263 -/
  | reservedD3
  /-- `PUSH DE`, D5: R227 -/
  | pushDE
  /-- `RST 10H`, D7: R245 -/
  | rst10
  /-- `RET C`, D8: R244 -/
  | retC
  /-- `RETI`, D9: R247 -/
  | reti
  /-- `RESERVED_DB`, DB: R263 -/
  | reservedDB
  /-- `RESERVED_DD`, DD: R263 -/
  | reservedDD
  /-- `RST 18H`, DF: R245 -/
  | rst18
  /-- `POP HL`, E1: R229 -/
  | popHL
  /-- `LD (C),A`, E2: R206 -/
  | ldAtCA
  /-- `RESERVED_E3`, E3: R263 -/
  | reservedE3
  /-- `RESERVED_E4`, E4: R263 -/
  | reservedE4
  /-- `PUSH HL`, E5: R227 -/
  | pushHL
  /-- `RST 20H`, E7: R245 -/
  | rst20
  /-- `JP HL`, E9: R240 -/
  | jpHL
  /-- `RESERVED_EB`, EB: R263 -/
  | reservedEB
  /-- `RESERVED_EC`, EC: R263 -/
  | reservedEC
  /-- `RESERVED_ED`, ED: R263 -/
  | reservedED
  /-- `RST 28H`, EF: R245 -/
  | rst28
  /-- `POP AF`, F1: R228 -/
  | popAF
  /-- `LD A,(C)`, F2: R207 -/
  | ldAAtC
  /-- `DI`, F3: R260 -/
  | di
  /-- `RESERVED_F4`, F4: R263 -/
  | reservedF4
  /-- `PUSH AF`, F5: R227 -/
  | pushAF
  /-- `RST 30H`, F7: R245 -/
  | rst30
  /-- `LD SP,HL`, F9: R222 -/
  | ldSPHL
  /-- `EI`, FB: R259 -/
  | ei
  /-- `RESERVED_FC`, FC: R263 -/
  | reservedFC
  /-- `RESERVED_FD`, FD: R263 -/
  | reservedFD
  /-- `RST 38H`, FF: R245 -/
  | rst38
  /-- `RLC B`, CB 00: R165 -/
  | rlcB
  /-- `RLC C`, CB 01: R165 -/
  | rlcC
  /-- `RLC D`, CB 02: R165 -/
  | rlcD
  /-- `RLC E`, CB 03: R165 -/
  | rlcE
  /-- `RLC H`, CB 04: R165 -/
  | rlcH
  /-- `RLC L`, CB 05: R165 -/
  | rlcL
  /-- `RLC (HL)`, CB 06: R166 -/
  | rlcAtHL
  /-- `RLC A`, CB 07: R165 -/
  | rlcA
  /-- `RRC B`, CB 08: R167 -/
  | rrcB
  /-- `RRC C`, CB 09: R167 -/
  | rrcC
  /-- `RRC D`, CB 0A: R167 -/
  | rrcD
  /-- `RRC E`, CB 0B: R167 -/
  | rrcE
  /-- `RRC H`, CB 0C: R167 -/
  | rrcH
  /-- `RRC L`, CB 0D: R167 -/
  | rrcL
  /-- `RRC (HL)`, CB 0E: R168 -/
  | rrcAtHL
  /-- `RRC A`, CB 0F: R167 -/
  | rrcA
  /-- `RL B`, CB 10: R169 -/
  | rlB
  /-- `RL C`, CB 11: R169 -/
  | rlC
  /-- `RL D`, CB 12: R169 -/
  | rlD
  /-- `RL E`, CB 13: R169 -/
  | rlE
  /-- `RL H`, CB 14: R169 -/
  | rlH
  /-- `RL L`, CB 15: R169 -/
  | rlL
  /-- `RL (HL)`, CB 16: R170 -/
  | rlAtHL
  /-- `RL A`, CB 17: R169 -/
  | rlA
  /-- `RR B`, CB 18: R171 -/
  | rrB
  /-- `RR C`, CB 19: R171 -/
  | rrC
  /-- `RR D`, CB 1A: R171 -/
  | rrD
  /-- `RR E`, CB 1B: R171 -/
  | rrE
  /-- `RR H`, CB 1C: R171 -/
  | rrH
  /-- `RR L`, CB 1D: R171 -/
  | rrL
  /-- `RR (HL)`, CB 1E: R172 -/
  | rrAtHL
  /-- `RR A`, CB 1F: R171 -/
  | rrA
  /-- `SLA B`, CB 20: R173 -/
  | slaB
  /-- `SLA C`, CB 21: R173 -/
  | slaC
  /-- `SLA D`, CB 22: R173 -/
  | slaD
  /-- `SLA E`, CB 23: R173 -/
  | slaE
  /-- `SLA H`, CB 24: R173 -/
  | slaH
  /-- `SLA L`, CB 25: R173 -/
  | slaL
  /-- `SLA (HL)`, CB 26: R174 -/
  | slaAtHL
  /-- `SLA A`, CB 27: R173 -/
  | slaA
  /-- `SRA B`, CB 28: R175 -/
  | sraB
  /-- `SRA C`, CB 29: R175 -/
  | sraC
  /-- `SRA D`, CB 2A: R175 -/
  | sraD
  /-- `SRA E`, CB 2B: R175 -/
  | sraE
  /-- `SRA H`, CB 2C: R175 -/
  | sraH
  /-- `SRA L`, CB 2D: R175 -/
  | sraL
  /-- `SRA (HL)`, CB 2E: R176 -/
  | sraAtHL
  /-- `SRA A`, CB 2F: R175 -/
  | sraA
  /-- `SWAP B`, CB 30: R177 -/
  | swapB
  /-- `SWAP C`, CB 31: R177 -/
  | swapC
  /-- `SWAP D`, CB 32: R177 -/
  | swapD
  /-- `SWAP E`, CB 33: R177 -/
  | swapE
  /-- `SWAP H`, CB 34: R177 -/
  | swapH
  /-- `SWAP L`, CB 35: R177 -/
  | swapL
  /-- `SWAP (HL)`, CB 36: R178 -/
  | swapAtHL
  /-- `SWAP A`, CB 37: R177 -/
  | swapA
  /-- `SRL B`, CB 38: R179 -/
  | srlB
  /-- `SRL C`, CB 39: R179 -/
  | srlC
  /-- `SRL D`, CB 3A: R179 -/
  | srlD
  /-- `SRL E`, CB 3B: R179 -/
  | srlE
  /-- `SRL H`, CB 3C: R179 -/
  | srlH
  /-- `SRL L`, CB 3D: R179 -/
  | srlL
  /-- `SRL (HL)`, CB 3E: R180 -/
  | srlAtHL
  /-- `SRL A`, CB 3F: R179 -/
  | srlA
  /-- `BIT 0,B`, CB 40: R181 -/
  | bit0B
  /-- `BIT 0,C`, CB 41: R181 -/
  | bit0C
  /-- `BIT 0,D`, CB 42: R181 -/
  | bit0D
  /-- `BIT 0,E`, CB 43: R181 -/
  | bit0E
  /-- `BIT 0,H`, CB 44: R181 -/
  | bit0H
  /-- `BIT 0,L`, CB 45: R181 -/
  | bit0L
  /-- `BIT 0,(HL)`, CB 46: R182 -/
  | bit0AtHL
  /-- `BIT 0,A`, CB 47: R181 -/
  | bit0A
  /-- `BIT 1,B`, CB 48: R181 -/
  | bit1B
  /-- `BIT 1,C`, CB 49: R181 -/
  | bit1C
  /-- `BIT 1,D`, CB 4A: R181 -/
  | bit1D
  /-- `BIT 1,E`, CB 4B: R181 -/
  | bit1E
  /-- `BIT 1,H`, CB 4C: R181 -/
  | bit1H
  /-- `BIT 1,L`, CB 4D: R181 -/
  | bit1L
  /-- `BIT 1,(HL)`, CB 4E: R182 -/
  | bit1AtHL
  /-- `BIT 1,A`, CB 4F: R181 -/
  | bit1A
  /-- `BIT 2,B`, CB 50: R181 -/
  | bit2B
  /-- `BIT 2,C`, CB 51: R181 -/
  | bit2C
  /-- `BIT 2,D`, CB 52: R181 -/
  | bit2D
  /-- `BIT 2,E`, CB 53: R181 -/
  | bit2E
  /-- `BIT 2,H`, CB 54: R181 -/
  | bit2H
  /-- `BIT 2,L`, CB 55: R181 -/
  | bit2L
  /-- `BIT 2,(HL)`, CB 56: R182 -/
  | bit2AtHL
  /-- `BIT 2,A`, CB 57: R181 -/
  | bit2A
  /-- `BIT 3,B`, CB 58: R181 -/
  | bit3B
  /-- `BIT 3,C`, CB 59: R181 -/
  | bit3C
  /-- `BIT 3,D`, CB 5A: R181 -/
  | bit3D
  /-- `BIT 3,E`, CB 5B: R181 -/
  | bit3E
  /-- `BIT 3,H`, CB 5C: R181 -/
  | bit3H
  /-- `BIT 3,L`, CB 5D: R181 -/
  | bit3L
  /-- `BIT 3,(HL)`, CB 5E: R182 -/
  | bit3AtHL
  /-- `BIT 3,A`, CB 5F: R181 -/
  | bit3A
  /-- `BIT 4,B`, CB 60: R181 -/
  | bit4B
  /-- `BIT 4,C`, CB 61: R181 -/
  | bit4C
  /-- `BIT 4,D`, CB 62: R181 -/
  | bit4D
  /-- `BIT 4,E`, CB 63: R181 -/
  | bit4E
  /-- `BIT 4,H`, CB 64: R181 -/
  | bit4H
  /-- `BIT 4,L`, CB 65: R181 -/
  | bit4L
  /-- `BIT 4,(HL)`, CB 66: R182 -/
  | bit4AtHL
  /-- `BIT 4,A`, CB 67: R181 -/
  | bit4A
  /-- `BIT 5,B`, CB 68: R181 -/
  | bit5B
  /-- `BIT 5,C`, CB 69: R181 -/
  | bit5C
  /-- `BIT 5,D`, CB 6A: R181 -/
  | bit5D
  /-- `BIT 5,E`, CB 6B: R181 -/
  | bit5E
  /-- `BIT 5,H`, CB 6C: R181 -/
  | bit5H
  /-- `BIT 5,L`, CB 6D: R181 -/
  | bit5L
  /-- `BIT 5,(HL)`, CB 6E: R182 -/
  | bit5AtHL
  /-- `BIT 5,A`, CB 6F: R181 -/
  | bit5A
  /-- `BIT 6,B`, CB 70: R181 -/
  | bit6B
  /-- `BIT 6,C`, CB 71: R181 -/
  | bit6C
  /-- `BIT 6,D`, CB 72: R181 -/
  | bit6D
  /-- `BIT 6,E`, CB 73: R181 -/
  | bit6E
  /-- `BIT 6,H`, CB 74: R181 -/
  | bit6H
  /-- `BIT 6,L`, CB 75: R181 -/
  | bit6L
  /-- `BIT 6,(HL)`, CB 76: R182 -/
  | bit6AtHL
  /-- `BIT 6,A`, CB 77: R181 -/
  | bit6A
  /-- `BIT 7,B`, CB 78: R181 -/
  | bit7B
  /-- `BIT 7,C`, CB 79: R181 -/
  | bit7C
  /-- `BIT 7,D`, CB 7A: R181 -/
  | bit7D
  /-- `BIT 7,E`, CB 7B: R181 -/
  | bit7E
  /-- `BIT 7,H`, CB 7C: R181 -/
  | bit7H
  /-- `BIT 7,L`, CB 7D: R181 -/
  | bit7L
  /-- `BIT 7,(HL)`, CB 7E: R182 -/
  | bit7AtHL
  /-- `BIT 7,A`, CB 7F: R181 -/
  | bit7A
  /-- `RES 0,B`, CB 80: R183 -/
  | res0B
  /-- `RES 0,C`, CB 81: R183 -/
  | res0C
  /-- `RES 0,D`, CB 82: R183 -/
  | res0D
  /-- `RES 0,E`, CB 83: R183 -/
  | res0E
  /-- `RES 0,H`, CB 84: R183 -/
  | res0H
  /-- `RES 0,L`, CB 85: R183 -/
  | res0L
  /-- `RES 0,(HL)`, CB 86: R184 -/
  | res0AtHL
  /-- `RES 0,A`, CB 87: R183 -/
  | res0A
  /-- `RES 1,B`, CB 88: R183 -/
  | res1B
  /-- `RES 1,C`, CB 89: R183 -/
  | res1C
  /-- `RES 1,D`, CB 8A: R183 -/
  | res1D
  /-- `RES 1,E`, CB 8B: R183 -/
  | res1E
  /-- `RES 1,H`, CB 8C: R183 -/
  | res1H
  /-- `RES 1,L`, CB 8D: R183 -/
  | res1L
  /-- `RES 1,(HL)`, CB 8E: R184 -/
  | res1AtHL
  /-- `RES 1,A`, CB 8F: R183 -/
  | res1A
  /-- `RES 2,B`, CB 90: R183 -/
  | res2B
  /-- `RES 2,C`, CB 91: R183 -/
  | res2C
  /-- `RES 2,D`, CB 92: R183 -/
  | res2D
  /-- `RES 2,E`, CB 93: R183 -/
  | res2E
  /-- `RES 2,H`, CB 94: R183 -/
  | res2H
  /-- `RES 2,L`, CB 95: R183 -/
  | res2L
  /-- `RES 2,(HL)`, CB 96: R184 -/
  | res2AtHL
  /-- `RES 2,A`, CB 97: R183 -/
  | res2A
  /-- `RES 3,B`, CB 98: R183 -/
  | res3B
  /-- `RES 3,C`, CB 99: R183 -/
  | res3C
  /-- `RES 3,D`, CB 9A: R183 -/
  | res3D
  /-- `RES 3,E`, CB 9B: R183 -/
  | res3E
  /-- `RES 3,H`, CB 9C: R183 -/
  | res3H
  /-- `RES 3,L`, CB 9D: R183 -/
  | res3L
  /-- `RES 3,(HL)`, CB 9E: R184 -/
  | res3AtHL
  /-- `RES 3,A`, CB 9F: R183 -/
  | res3A
  /-- `RES 4,B`, CB A0: R183 -/
  | res4B
  /-- `RES 4,C`, CB A1: R183 -/
  | res4C
  /-- `RES 4,D`, CB A2: R183 -/
  | res4D
  /-- `RES 4,E`, CB A3: R183 -/
  | res4E
  /-- `RES 4,H`, CB A4: R183 -/
  | res4H
  /-- `RES 4,L`, CB A5: R183 -/
  | res4L
  /-- `RES 4,(HL)`, CB A6: R184 -/
  | res4AtHL
  /-- `RES 4,A`, CB A7: R183 -/
  | res4A
  /-- `RES 5,B`, CB A8: R183 -/
  | res5B
  /-- `RES 5,C`, CB A9: R183 -/
  | res5C
  /-- `RES 5,D`, CB AA: R183 -/
  | res5D
  /-- `RES 5,E`, CB AB: R183 -/
  | res5E
  /-- `RES 5,H`, CB AC: R183 -/
  | res5H
  /-- `RES 5,L`, CB AD: R183 -/
  | res5L
  /-- `RES 5,(HL)`, CB AE: R184 -/
  | res5AtHL
  /-- `RES 5,A`, CB AF: R183 -/
  | res5A
  /-- `RES 6,B`, CB B0: R183 -/
  | res6B
  /-- `RES 6,C`, CB B1: R183 -/
  | res6C
  /-- `RES 6,D`, CB B2: R183 -/
  | res6D
  /-- `RES 6,E`, CB B3: R183 -/
  | res6E
  /-- `RES 6,H`, CB B4: R183 -/
  | res6H
  /-- `RES 6,L`, CB B5: R183 -/
  | res6L
  /-- `RES 6,(HL)`, CB B6: R184 -/
  | res6AtHL
  /-- `RES 6,A`, CB B7: R183 -/
  | res6A
  /-- `RES 7,B`, CB B8: R183 -/
  | res7B
  /-- `RES 7,C`, CB B9: R183 -/
  | res7C
  /-- `RES 7,D`, CB BA: R183 -/
  | res7D
  /-- `RES 7,E`, CB BB: R183 -/
  | res7E
  /-- `RES 7,H`, CB BC: R183 -/
  | res7H
  /-- `RES 7,L`, CB BD: R183 -/
  | res7L
  /-- `RES 7,(HL)`, CB BE: R184 -/
  | res7AtHL
  /-- `RES 7,A`, CB BF: R183 -/
  | res7A
  /-- `SET 0,B`, CB C0: R185 -/
  | set0B
  /-- `SET 0,C`, CB C1: R185 -/
  | set0C
  /-- `SET 0,D`, CB C2: R185 -/
  | set0D
  /-- `SET 0,E`, CB C3: R185 -/
  | set0E
  /-- `SET 0,H`, CB C4: R185 -/
  | set0H
  /-- `SET 0,L`, CB C5: R185 -/
  | set0L
  /-- `SET 0,(HL)`, CB C6: R186 -/
  | set0AtHL
  /-- `SET 0,A`, CB C7: R185 -/
  | set0A
  /-- `SET 1,B`, CB C8: R185 -/
  | set1B
  /-- `SET 1,C`, CB C9: R185 -/
  | set1C
  /-- `SET 1,D`, CB CA: R185 -/
  | set1D
  /-- `SET 1,E`, CB CB: R185 -/
  | set1E
  /-- `SET 1,H`, CB CC: R185 -/
  | set1H
  /-- `SET 1,L`, CB CD: R185 -/
  | set1L
  /-- `SET 1,(HL)`, CB CE: R186 -/
  | set1AtHL
  /-- `SET 1,A`, CB CF: R185 -/
  | set1A
  /-- `SET 2,B`, CB D0: R185 -/
  | set2B
  /-- `SET 2,C`, CB D1: R185 -/
  | set2C
  /-- `SET 2,D`, CB D2: R185 -/
  | set2D
  /-- `SET 2,E`, CB D3: R185 -/
  | set2E
  /-- `SET 2,H`, CB D4: R185 -/
  | set2H
  /-- `SET 2,L`, CB D5: R185 -/
  | set2L
  /-- `SET 2,(HL)`, CB D6: R186 -/
  | set2AtHL
  /-- `SET 2,A`, CB D7: R185 -/
  | set2A
  /-- `SET 3,B`, CB D8: R185 -/
  | set3B
  /-- `SET 3,C`, CB D9: R185 -/
  | set3C
  /-- `SET 3,D`, CB DA: R185 -/
  | set3D
  /-- `SET 3,E`, CB DB: R185 -/
  | set3E
  /-- `SET 3,H`, CB DC: R185 -/
  | set3H
  /-- `SET 3,L`, CB DD: R185 -/
  | set3L
  /-- `SET 3,(HL)`, CB DE: R186 -/
  | set3AtHL
  /-- `SET 3,A`, CB DF: R185 -/
  | set3A
  /-- `SET 4,B`, CB E0: R185 -/
  | set4B
  /-- `SET 4,C`, CB E1: R185 -/
  | set4C
  /-- `SET 4,D`, CB E2: R185 -/
  | set4D
  /-- `SET 4,E`, CB E3: R185 -/
  | set4E
  /-- `SET 4,H`, CB E4: R185 -/
  | set4H
  /-- `SET 4,L`, CB E5: R185 -/
  | set4L
  /-- `SET 4,(HL)`, CB E6: R186 -/
  | set4AtHL
  /-- `SET 4,A`, CB E7: R185 -/
  | set4A
  /-- `SET 5,B`, CB E8: R185 -/
  | set5B
  /-- `SET 5,C`, CB E9: R185 -/
  | set5C
  /-- `SET 5,D`, CB EA: R185 -/
  | set5D
  /-- `SET 5,E`, CB EB: R185 -/
  | set5E
  /-- `SET 5,H`, CB EC: R185 -/
  | set5H
  /-- `SET 5,L`, CB ED: R185 -/
  | set5L
  /-- `SET 5,(HL)`, CB EE: R186 -/
  | set5AtHL
  /-- `SET 5,A`, CB EF: R185 -/
  | set5A
  /-- `SET 6,B`, CB F0: R185 -/
  | set6B
  /-- `SET 6,C`, CB F1: R185 -/
  | set6C
  /-- `SET 6,D`, CB F2: R185 -/
  | set6D
  /-- `SET 6,E`, CB F3: R185 -/
  | set6E
  /-- `SET 6,H`, CB F4: R185 -/
  | set6H
  /-- `SET 6,L`, CB F5: R185 -/
  | set6L
  /-- `SET 6,(HL)`, CB F6: R186 -/
  | set6AtHL
  /-- `SET 6,A`, CB F7: R185 -/
  | set6A
  /-- `SET 7,B`, CB F8: R185 -/
  | set7B
  /-- `SET 7,C`, CB F9: R185 -/
  | set7C
  /-- `SET 7,D`, CB FA: R185 -/
  | set7D
  /-- `SET 7,E`, CB FB: R185 -/
  | set7E
  /-- `SET 7,H`, CB FC: R185 -/
  | set7H
  /-- `SET 7,L`, CB FD: R185 -/
  | set7L
  /-- `SET 7,(HL)`, CB FE: R186 -/
  | set7AtHL
  /-- `SET 7,A`, CB FF: R185 -/
  | set7A
deriving DecidableEq, Repr

end Sys2Proof
end

