-- ==== Sys2Proof/WellFormed.lean ====
section
/-! DEFINITION. Which terms of `Instr` are whole instructions. Every operand has exactly the width of its field, so the
only check is that the prefix byte does not stand alone: it "is not an instruction of its own" (R258). -/

namespace Sys2Proof

/-- The prefix byte without the table byte that makes it an instruction (R258). -/
def Instr.prefixAlone (i : Instr) : Bool :=
  match i with
  | .prefixCb => true
  | _ => false

/-- A whole instruction. -/
def Instr.wellFormed (i : Instr) : Bool := !i.prefixAlone

end Sys2Proof
end

