-- ==== Sys2Proof/Decode.lean ====
section
/-! DEFINITION. The decoder from bytes to instructions, by the field patterns of the two opcode maps (R85, R86 to R95,
R99), total on any list of bytes; and the encoder, one row per constructor, from the opcode table (R92, R93). -/

namespace Sys2Proof

open Sys2Proof.Machine

/-- The block `10 ooo sss` (R85, R99): an ALU operation on A and an `r8` operand. -/
def aluInstr (op : AluOp) (o : Operand8) : Instr :=
  match op, o with
  | .add, .reg .b => .addAB
  | .add, .reg .c => .addAC
  | .add, .reg .d => .addAD
  | .add, .reg .e => .addAE
  | .add, .reg .h => .addAH
  | .add, .reg .l => .addAL
  | .add, .atHl => .addAAtHL
  | .add, .reg .a => .addAA
  | .adc, .reg .b => .adcAB
  | .adc, .reg .c => .adcAC
  | .adc, .reg .d => .adcAD
  | .adc, .reg .e => .adcAE
  | .adc, .reg .h => .adcAH
  | .adc, .reg .l => .adcAL
  | .adc, .atHl => .adcAAtHL
  | .adc, .reg .a => .adcAA
  | .sub, .reg .b => .subB
  | .sub, .reg .c => .subC
  | .sub, .reg .d => .subD
  | .sub, .reg .e => .subE
  | .sub, .reg .h => .subH
  | .sub, .reg .l => .subL
  | .sub, .atHl => .subAtHL
  | .sub, .reg .a => .subA
  | .sbc, .reg .b => .sbcAB
  | .sbc, .reg .c => .sbcAC
  | .sbc, .reg .d => .sbcAD
  | .sbc, .reg .e => .sbcAE
  | .sbc, .reg .h => .sbcAH
  | .sbc, .reg .l => .sbcAL
  | .sbc, .atHl => .sbcAAtHL
  | .sbc, .reg .a => .sbcAA
  | .and, .reg .b => .andB
  | .and, .reg .c => .andC
  | .and, .reg .d => .andD
  | .and, .reg .e => .andE
  | .and, .reg .h => .andH
  | .and, .reg .l => .andL
  | .and, .atHl => .andAtHL
  | .and, .reg .a => .andA
  | .xor, .reg .b => .xorB
  | .xor, .reg .c => .xorC
  | .xor, .reg .d => .xorD
  | .xor, .reg .e => .xorE
  | .xor, .reg .h => .xorH
  | .xor, .reg .l => .xorL
  | .xor, .atHl => .xorAtHL
  | .xor, .reg .a => .xorA
  | .or, .reg .b => .orB
  | .or, .reg .c => .orC
  | .or, .reg .d => .orD
  | .or, .reg .e => .orE
  | .or, .reg .h => .orH
  | .or, .reg .l => .orL
  | .or, .atHl => .orAtHL
  | .or, .reg .a => .orA
  | .cp, .reg .b => .cpB
  | .cp, .reg .c => .cpC
  | .cp, .reg .d => .cpD
  | .cp, .reg .e => .cpE
  | .cp, .reg .h => .cpH
  | .cp, .reg .l => .cpL
  | .cp, .atHl => .cpAtHL
  | .cp, .reg .a => .cpA

/-- The block `11 ooo 110` (R85, R99): an ALU operation on A and an immediate byte. -/
def aluImmInstr (op : AluOp) (n : Byte) : Instr :=
  match op with
  | .add => .addAImm n
  | .adc => .adcAImm n
  | .sub => .subImm n
  | .sbc => .sbcAImm n
  | .and => .andImm n
  | .xor => .xorImm n
  | .or => .orImm n
  | .cp => .cpImm n

/-- The block `00 ddd 100` (R85): 8-bit INC. -/
def incInstr (o : Operand8) : Instr :=
  match o with
  | .reg .b => .incB
  | .reg .c => .incC
  | .reg .d => .incD
  | .reg .e => .incE
  | .reg .h => .incH
  | .reg .l => .incL
  | .atHl => .incAtHL
  | .reg .a => .incA

/-- The block `00 ddd 101` (R85): 8-bit DEC. -/
def decInstr (o : Operand8) : Instr :=
  match o with
  | .reg .b => .decB
  | .reg .c => .decC
  | .reg .d => .decD
  | .reg .e => .decE
  | .reg .h => .decH
  | .reg .l => .decL
  | .atHl => .decAtHL
  | .reg .a => .decA

/-- The block `00 ddd 110` (R85): an immediate byte to an `r8` operand. -/
def ldImmInstr (o : Operand8) (n : Byte) : Instr :=
  match o with
  | .reg .b => .ldBImm n
  | .reg .c => .ldCImm n
  | .reg .d => .ldDImm n
  | .reg .e => .ldEImm n
  | .reg .h => .ldHImm n
  | .reg .l => .ldLImm n
  | .atHl => .ldAtHLImm n
  | .reg .a => .ldAImm n

/-- The block `01 ddd sss` (R85): the move between two `r8` operands; `01 110 110` is HALT (R256). -/
def ldInstr (dst : Operand8) (src : Operand8) : Instr :=
  match dst, src with
  | .reg .b, .reg .b => .ldBB
  | .reg .b, .reg .c => .ldBC
  | .reg .b, .reg .d => .ldBD
  | .reg .b, .reg .e => .ldBE
  | .reg .b, .reg .h => .ldBH
  | .reg .b, .reg .l => .ldBL
  | .reg .b, .atHl => .ldBAtHL
  | .reg .b, .reg .a => .ldBA
  | .reg .c, .reg .b => .ldCB
  | .reg .c, .reg .c => .ldCC
  | .reg .c, .reg .d => .ldCD
  | .reg .c, .reg .e => .ldCE
  | .reg .c, .reg .h => .ldCH
  | .reg .c, .reg .l => .ldCL
  | .reg .c, .atHl => .ldCAtHL
  | .reg .c, .reg .a => .ldCA
  | .reg .d, .reg .b => .ldDB
  | .reg .d, .reg .c => .ldDC
  | .reg .d, .reg .d => .ldDD
  | .reg .d, .reg .e => .ldDE
  | .reg .d, .reg .h => .ldDH
  | .reg .d, .reg .l => .ldDL
  | .reg .d, .atHl => .ldDAtHL
  | .reg .d, .reg .a => .ldDA
  | .reg .e, .reg .b => .ldEB
  | .reg .e, .reg .c => .ldEC
  | .reg .e, .reg .d => .ldED
  | .reg .e, .reg .e => .ldEE
  | .reg .e, .reg .h => .ldEH
  | .reg .e, .reg .l => .ldEL
  | .reg .e, .atHl => .ldEAtHL
  | .reg .e, .reg .a => .ldEA
  | .reg .h, .reg .b => .ldHB
  | .reg .h, .reg .c => .ldHC
  | .reg .h, .reg .d => .ldHD
  | .reg .h, .reg .e => .ldHE
  | .reg .h, .reg .h => .ldHH
  | .reg .h, .reg .l => .ldHL
  | .reg .h, .atHl => .ldHAtHL
  | .reg .h, .reg .a => .ldHA
  | .reg .l, .reg .b => .ldLB
  | .reg .l, .reg .c => .ldLC
  | .reg .l, .reg .d => .ldLD
  | .reg .l, .reg .e => .ldLE
  | .reg .l, .reg .h => .ldLH
  | .reg .l, .reg .l => .ldLL
  | .reg .l, .atHl => .ldLAtHL
  | .reg .l, .reg .a => .ldLA
  | .atHl, .reg .b => .ldAtHLB
  | .atHl, .reg .c => .ldAtHLC
  | .atHl, .reg .d => .ldAtHLD
  | .atHl, .reg .e => .ldAtHLE
  | .atHl, .reg .h => .ldAtHLH
  | .atHl, .reg .l => .ldAtHLL
  | .atHl, .atHl => .halt
  | .atHl, .reg .a => .ldAtHLA
  | .reg .a, .reg .b => .ldAB
  | .reg .a, .reg .c => .ldAC
  | .reg .a, .reg .d => .ldAD
  | .reg .a, .reg .e => .ldAE
  | .reg .a, .reg .h => .ldAH
  | .reg .a, .reg .l => .ldAL
  | .reg .a, .atHl => .ldAAtHL
  | .reg .a, .reg .a => .ldAA

/-- `00 pp 0001` (R85): an immediate word to a pair. -/
def ldPairInstr (p : Pair) (nn : Word) : Instr :=
  match p with
  | .bc => .ldBCImm nn
  | .de => .ldDEImm nn
  | .hl => .ldHLImm nn
  | .sp => .ldSPImm nn

/-- `00 pp 0011` (R85): 16-bit INC. -/
def incPairInstr (p : Pair) : Instr :=
  match p with
  | .bc => .incBC
  | .de => .incDE
  | .hl => .incHL
  | .sp => .incSP

/-- `00 pp 1011` (R85): 16-bit DEC. -/
def decPairInstr (p : Pair) : Instr :=
  match p with
  | .bc => .decBC
  | .de => .decDE
  | .hl => .decHL
  | .sp => .decSP

/-- `00 pp 1001` (R85): `ADD HL,rr`. -/
def addHlInstr (p : Pair) : Instr :=
  match p with
  | .bc => .addHLBC
  | .de => .addHLDE
  | .hl => .addHLHL
  | .sp => .addHLSP

/-- `00 pp 0010` (R85): `LD (rr),A`. -/
def storeAInstr (p : MemPair) : Instr :=
  match p with
  | .bc => .ldAtBCA
  | .de => .ldAtDEA
  | .hlInc => .ldAtHLIncA
  | .hlDec => .ldAtHLDecA

/-- `00 pp 1010` (R85): `LD A,(rr)`. -/
def loadAInstr (p : MemPair) : Instr :=
  match p with
  | .bc => .ldAAtBC
  | .de => .ldAAtDE
  | .hlInc => .ldAAtHLInc
  | .hlDec => .ldAAtHLDec

/-- `11 pp 0001` (R85): POP. -/
def popInstr (p : StackPair) : Instr :=
  match p with
  | .bc => .popBC
  | .de => .popDE
  | .hl => .popHL
  | .af => .popAF

/-- `11 pp 0101` (R85): PUSH. -/
def pushInstr (p : StackPair) : Instr :=
  match p with
  | .bc => .pushBC
  | .de => .pushDE
  | .hl => .pushHL
  | .af => .pushAF

/-- `001 cc 000` (R85): `JR cc,e8`. -/
def jrInstr (cc : Cond) (n : Byte) : Instr :=
  match cc with
  | .nz => .jrNZ n
  | .z => .jrZ n
  | .nc => .jrNC n
  | .c => .jrC n

/-- `110 cc 000` (R85): `RET cc`. -/
def retInstr (cc : Cond) : Instr :=
  match cc with
  | .nz => .retNZ
  | .z => .retZ
  | .nc => .retNC
  | .c => .retC

/-- `110 cc 010` (R85): `JP cc,a16`. -/
def jpInstr (cc : Cond) (nn : Word) : Instr :=
  match cc with
  | .nz => .jpNZ nn
  | .z => .jpZ nn
  | .nc => .jpNC nn
  | .c => .jpC nn

/-- `110 cc 100` (R85): `CALL cc,a16`. -/
def callInstr (cc : Cond) (nn : Word) : Instr :=
  match cc with
  | .nz => .callNZ nn
  | .z => .callZ nn
  | .nc => .callNC nn
  | .c => .callC nn

/-- `11 ttt 111` (R85): RST with the restart index `ttt`. -/
def rstInstr (i : Fin 8) : Instr :=
  match i with
  | 0 => .rst00
  | 1 => .rst08
  | 2 => .rst10
  | 3 => .rst18
  | 4 => .rst20
  | 5 => .rst28
  | 6 => .rst30
  | 7 => .rst38

/-- The CB block `00 ooo rrr` (R93). -/
def shiftInstr (op : ShiftOp) (o : Operand8) : Instr :=
  match op, o with
  | .rlc, .reg .b => .rlcB
  | .rlc, .reg .c => .rlcC
  | .rlc, .reg .d => .rlcD
  | .rlc, .reg .e => .rlcE
  | .rlc, .reg .h => .rlcH
  | .rlc, .reg .l => .rlcL
  | .rlc, .atHl => .rlcAtHL
  | .rlc, .reg .a => .rlcA
  | .rrc, .reg .b => .rrcB
  | .rrc, .reg .c => .rrcC
  | .rrc, .reg .d => .rrcD
  | .rrc, .reg .e => .rrcE
  | .rrc, .reg .h => .rrcH
  | .rrc, .reg .l => .rrcL
  | .rrc, .atHl => .rrcAtHL
  | .rrc, .reg .a => .rrcA
  | .rl, .reg .b => .rlB
  | .rl, .reg .c => .rlC
  | .rl, .reg .d => .rlD
  | .rl, .reg .e => .rlE
  | .rl, .reg .h => .rlH
  | .rl, .reg .l => .rlL
  | .rl, .atHl => .rlAtHL
  | .rl, .reg .a => .rlA
  | .rr, .reg .b => .rrB
  | .rr, .reg .c => .rrC
  | .rr, .reg .d => .rrD
  | .rr, .reg .e => .rrE
  | .rr, .reg .h => .rrH
  | .rr, .reg .l => .rrL
  | .rr, .atHl => .rrAtHL
  | .rr, .reg .a => .rrA
  | .sla, .reg .b => .slaB
  | .sla, .reg .c => .slaC
  | .sla, .reg .d => .slaD
  | .sla, .reg .e => .slaE
  | .sla, .reg .h => .slaH
  | .sla, .reg .l => .slaL
  | .sla, .atHl => .slaAtHL
  | .sla, .reg .a => .slaA
  | .sra, .reg .b => .sraB
  | .sra, .reg .c => .sraC
  | .sra, .reg .d => .sraD
  | .sra, .reg .e => .sraE
  | .sra, .reg .h => .sraH
  | .sra, .reg .l => .sraL
  | .sra, .atHl => .sraAtHL
  | .sra, .reg .a => .sraA
  | .swap, .reg .b => .swapB
  | .swap, .reg .c => .swapC
  | .swap, .reg .d => .swapD
  | .swap, .reg .e => .swapE
  | .swap, .reg .h => .swapH
  | .swap, .reg .l => .swapL
  | .swap, .atHl => .swapAtHL
  | .swap, .reg .a => .swapA
  | .srl, .reg .b => .srlB
  | .srl, .reg .c => .srlC
  | .srl, .reg .d => .srlD
  | .srl, .reg .e => .srlE
  | .srl, .reg .h => .srlH
  | .srl, .reg .l => .srlL
  | .srl, .atHl => .srlAtHL
  | .srl, .reg .a => .srlA

/-- The CB block `01 bbb rrr` (R93): BIT. -/
def bitInstr (i : Fin 8) (o : Operand8) : Instr :=
  match i, o with
  | 0, .reg .b => .bit0B
  | 0, .reg .c => .bit0C
  | 0, .reg .d => .bit0D
  | 0, .reg .e => .bit0E
  | 0, .reg .h => .bit0H
  | 0, .reg .l => .bit0L
  | 0, .atHl => .bit0AtHL
  | 0, .reg .a => .bit0A
  | 1, .reg .b => .bit1B
  | 1, .reg .c => .bit1C
  | 1, .reg .d => .bit1D
  | 1, .reg .e => .bit1E
  | 1, .reg .h => .bit1H
  | 1, .reg .l => .bit1L
  | 1, .atHl => .bit1AtHL
  | 1, .reg .a => .bit1A
  | 2, .reg .b => .bit2B
  | 2, .reg .c => .bit2C
  | 2, .reg .d => .bit2D
  | 2, .reg .e => .bit2E
  | 2, .reg .h => .bit2H
  | 2, .reg .l => .bit2L
  | 2, .atHl => .bit2AtHL
  | 2, .reg .a => .bit2A
  | 3, .reg .b => .bit3B
  | 3, .reg .c => .bit3C
  | 3, .reg .d => .bit3D
  | 3, .reg .e => .bit3E
  | 3, .reg .h => .bit3H
  | 3, .reg .l => .bit3L
  | 3, .atHl => .bit3AtHL
  | 3, .reg .a => .bit3A
  | 4, .reg .b => .bit4B
  | 4, .reg .c => .bit4C
  | 4, .reg .d => .bit4D
  | 4, .reg .e => .bit4E
  | 4, .reg .h => .bit4H
  | 4, .reg .l => .bit4L
  | 4, .atHl => .bit4AtHL
  | 4, .reg .a => .bit4A
  | 5, .reg .b => .bit5B
  | 5, .reg .c => .bit5C
  | 5, .reg .d => .bit5D
  | 5, .reg .e => .bit5E
  | 5, .reg .h => .bit5H
  | 5, .reg .l => .bit5L
  | 5, .atHl => .bit5AtHL
  | 5, .reg .a => .bit5A
  | 6, .reg .b => .bit6B
  | 6, .reg .c => .bit6C
  | 6, .reg .d => .bit6D
  | 6, .reg .e => .bit6E
  | 6, .reg .h => .bit6H
  | 6, .reg .l => .bit6L
  | 6, .atHl => .bit6AtHL
  | 6, .reg .a => .bit6A
  | 7, .reg .b => .bit7B
  | 7, .reg .c => .bit7C
  | 7, .reg .d => .bit7D
  | 7, .reg .e => .bit7E
  | 7, .reg .h => .bit7H
  | 7, .reg .l => .bit7L
  | 7, .atHl => .bit7AtHL
  | 7, .reg .a => .bit7A

/-- The CB block `10 bbb rrr` (R93): RES. -/
def resInstr (i : Fin 8) (o : Operand8) : Instr :=
  match i, o with
  | 0, .reg .b => .res0B
  | 0, .reg .c => .res0C
  | 0, .reg .d => .res0D
  | 0, .reg .e => .res0E
  | 0, .reg .h => .res0H
  | 0, .reg .l => .res0L
  | 0, .atHl => .res0AtHL
  | 0, .reg .a => .res0A
  | 1, .reg .b => .res1B
  | 1, .reg .c => .res1C
  | 1, .reg .d => .res1D
  | 1, .reg .e => .res1E
  | 1, .reg .h => .res1H
  | 1, .reg .l => .res1L
  | 1, .atHl => .res1AtHL
  | 1, .reg .a => .res1A
  | 2, .reg .b => .res2B
  | 2, .reg .c => .res2C
  | 2, .reg .d => .res2D
  | 2, .reg .e => .res2E
  | 2, .reg .h => .res2H
  | 2, .reg .l => .res2L
  | 2, .atHl => .res2AtHL
  | 2, .reg .a => .res2A
  | 3, .reg .b => .res3B
  | 3, .reg .c => .res3C
  | 3, .reg .d => .res3D
  | 3, .reg .e => .res3E
  | 3, .reg .h => .res3H
  | 3, .reg .l => .res3L
  | 3, .atHl => .res3AtHL
  | 3, .reg .a => .res3A
  | 4, .reg .b => .res4B
  | 4, .reg .c => .res4C
  | 4, .reg .d => .res4D
  | 4, .reg .e => .res4E
  | 4, .reg .h => .res4H
  | 4, .reg .l => .res4L
  | 4, .atHl => .res4AtHL
  | 4, .reg .a => .res4A
  | 5, .reg .b => .res5B
  | 5, .reg .c => .res5C
  | 5, .reg .d => .res5D
  | 5, .reg .e => .res5E
  | 5, .reg .h => .res5H
  | 5, .reg .l => .res5L
  | 5, .atHl => .res5AtHL
  | 5, .reg .a => .res5A
  | 6, .reg .b => .res6B
  | 6, .reg .c => .res6C
  | 6, .reg .d => .res6D
  | 6, .reg .e => .res6E
  | 6, .reg .h => .res6H
  | 6, .reg .l => .res6L
  | 6, .atHl => .res6AtHL
  | 6, .reg .a => .res6A
  | 7, .reg .b => .res7B
  | 7, .reg .c => .res7C
  | 7, .reg .d => .res7D
  | 7, .reg .e => .res7E
  | 7, .reg .h => .res7H
  | 7, .reg .l => .res7L
  | 7, .atHl => .res7AtHL
  | 7, .reg .a => .res7A

/-- The CB block `11 bbb rrr` (R93): SET. -/
def setInstr (i : Fin 8) (o : Operand8) : Instr :=
  match i, o with
  | 0, .reg .b => .set0B
  | 0, .reg .c => .set0C
  | 0, .reg .d => .set0D
  | 0, .reg .e => .set0E
  | 0, .reg .h => .set0H
  | 0, .reg .l => .set0L
  | 0, .atHl => .set0AtHL
  | 0, .reg .a => .set0A
  | 1, .reg .b => .set1B
  | 1, .reg .c => .set1C
  | 1, .reg .d => .set1D
  | 1, .reg .e => .set1E
  | 1, .reg .h => .set1H
  | 1, .reg .l => .set1L
  | 1, .atHl => .set1AtHL
  | 1, .reg .a => .set1A
  | 2, .reg .b => .set2B
  | 2, .reg .c => .set2C
  | 2, .reg .d => .set2D
  | 2, .reg .e => .set2E
  | 2, .reg .h => .set2H
  | 2, .reg .l => .set2L
  | 2, .atHl => .set2AtHL
  | 2, .reg .a => .set2A
  | 3, .reg .b => .set3B
  | 3, .reg .c => .set3C
  | 3, .reg .d => .set3D
  | 3, .reg .e => .set3E
  | 3, .reg .h => .set3H
  | 3, .reg .l => .set3L
  | 3, .atHl => .set3AtHL
  | 3, .reg .a => .set3A
  | 4, .reg .b => .set4B
  | 4, .reg .c => .set4C
  | 4, .reg .d => .set4D
  | 4, .reg .e => .set4E
  | 4, .reg .h => .set4H
  | 4, .reg .l => .set4L
  | 4, .atHl => .set4AtHL
  | 4, .reg .a => .set4A
  | 5, .reg .b => .set5B
  | 5, .reg .c => .set5C
  | 5, .reg .d => .set5D
  | 5, .reg .e => .set5E
  | 5, .reg .h => .set5H
  | 5, .reg .l => .set5L
  | 5, .atHl => .set5AtHL
  | 5, .reg .a => .set5A
  | 6, .reg .b => .set6B
  | 6, .reg .c => .set6C
  | 6, .reg .d => .set6D
  | 6, .reg .e => .set6E
  | 6, .reg .h => .set6H
  | 6, .reg .l => .set6L
  | 6, .atHl => .set6AtHL
  | 6, .reg .a => .set6A
  | 7, .reg .b => .set7B
  | 7, .reg .c => .set7C
  | 7, .reg .d => .set7D
  | 7, .reg .e => .set7E
  | 7, .reg .h => .set7H
  | 7, .reg .l => .set7L
  | 7, .atHl => .set7AtHL
  | 7, .reg .a => .set7A

/-- What an entry of the primary table needs to become an instruction (R85): nothing more, one immediate byte, one
little-endian immediate word, or the byte that selects a row of the CB table. -/
inductive Entry where
  | plain (i : Instr)
  | imm8 (k : Byte → Instr)
  | imm16 (k : Word → Instr)
  | cbTable

/-- The column `z = 0` of the quarter `x = 0`. -/
def entryMisc (y : Nat) : Entry :=
  match y with
  | 0 => .plain .nop
  | 1 => .imm16 .ldAtImmSP
  | 2 => .plain .stop
  | 3 => .imm8 .jr
  | _ => .imm8 (jrInstr (Cond.ofCode (y - 4)))

/-- The column `z = 7` of the quarter `x = 0`: the legacy rotates and DAA, CPL, SCF, CCF. -/
def entryAcc (y : Nat) : Entry :=
  match y with
  | 0 => .plain .rlca
  | 1 => .plain .rrca
  | 2 => .plain .rla
  | 3 => .plain .rra
  | 4 => .plain .daa
  | 5 => .plain .cpl
  | 6 => .plain .scf
  | _ => .plain .ccf

/-- The quarter `00 yyy zzz` of the primary table. -/
def entryLow (y z : Nat) : Entry :=
  match z with
  | 0 => entryMisc y
  | 1 => if y % 2 = 0 then .imm16 (ldPairInstr (Pair.ofCode (y / 2))) else .plain (addHlInstr (Pair.ofCode (y / 2)))
  | 2 => .plain (if y % 2 = 0 then storeAInstr (MemPair.ofCode (y / 2)) else loadAInstr (MemPair.ofCode (y / 2)))
  | 3 => .plain (if y % 2 = 0 then incPairInstr (Pair.ofCode (y / 2)) else decPairInstr (Pair.ofCode (y / 2)))
  | 4 => .plain (incInstr (Operand8.ofCode y))
  | 5 => .plain (decInstr (Operand8.ofCode y))
  | 6 => .imm8 (ldImmInstr (Operand8.ofCode y))
  | _ => entryAcc y

/-- The column `z = 0` of the quarter `x = 3`. -/
def entryRetMisc (y : Nat) : Entry :=
  match y with
  | 4 => .imm8 .ldhAtImmA
  | 5 => .imm8 .addSPImm
  | 6 => .imm8 .ldhAAtImm
  | 7 => .imm8 .ldHLSPImm
  | _ => .plain (retInstr (Cond.ofCode y))

/-- The column `z = 1` of the quarter `x = 3`. -/
def entryPopMisc (y : Nat) : Entry :=
  match y with
  | 1 => .plain .ret
  | 3 => .plain .reti
  | 5 => .plain .jpHL
  | 7 => .plain .ldSPHL
  | _ => .plain (popInstr (StackPair.ofCode (y / 2)))

/-- The column `z = 2` of the quarter `x = 3`. -/
def entryJpMisc (y : Nat) : Entry :=
  match y with
  | 4 => .plain .ldAtCA
  | 5 => .imm16 .ldAtImmA
  | 6 => .plain .ldAAtC
  | 7 => .imm16 .ldAAtImm
  | _ => .imm16 (jpInstr (Cond.ofCode y))

/-- The column `z = 3` of the quarter `x = 3`, four of its bytes reserved (R94). -/
def entryJumpSystem (y : Nat) : Entry :=
  match y with
  | 0 => .imm16 .jp
  | 1 => .cbTable
  | 2 => .plain .reservedD3
  | 3 => .plain .reservedDB
  | 4 => .plain .reservedE3
  | 5 => .plain .reservedEB
  | 6 => .plain .di
  | _ => .plain .ei

/-- The column `z = 4` of the quarter `x = 3`, four of its bytes reserved (R94). -/
def entryCallCond (y : Nat) : Entry :=
  match y with
  | 4 => .plain .reservedE4
  | 5 => .plain .reservedEC
  | 6 => .plain .reservedF4
  | 7 => .plain .reservedFC
  | _ => .imm16 (callInstr (Cond.ofCode y))

/-- The column `z = 5` of the quarter `x = 3`, three of its bytes reserved (R94). -/
def entryPushCall (y : Nat) : Entry :=
  match y with
  | 1 => .imm16 .call
  | 3 => .plain .reservedDD
  | 5 => .plain .reservedED
  | 7 => .plain .reservedFD
  | _ => .plain (pushInstr (StackPair.ofCode (y / 2)))

/-- The quarter `11 yyy zzz` of the primary table. -/
def entryHigh (y z : Nat) : Entry :=
  match z with
  | 0 => entryRetMisc y
  | 1 => entryPopMisc y
  | 2 => entryJpMisc y
  | 3 => entryJumpSystem y
  | 4 => entryCallCond y
  | 5 => entryPushCall y
  | 6 => .imm8 (aluImmInstr (AluOp.ofCode y))
  | _ => .plain (rstInstr (octet y))

/-- The primary table, a total function of the first byte (R81, R92), read as `xx yyy zzz` (R85). -/
def primaryEntry (op : Byte) : Entry :=
  let x := op.toNat / 64
  let y := op.toNat / 8 % 8
  let z := op.toNat % 8
  match x with
  | 0 => entryLow y z
  | 1 => .plain (ldInstr (Operand8.ofCode y) (Operand8.ofCode z))
  | 2 => .plain (aluInstr (AluOp.ofCode y) (Operand8.ofCode z))
  | _ => entryHigh y z

/-- The CB table, a total function of the byte after 0xCB (R93), read as `xx yyy rrr`. -/
def cbInstr (op : Byte) : Instr :=
  let x := op.toNat / 64
  let y := op.toNat / 8 % 8
  let o := Operand8.ofCode (op.toNat % 8)
  match x with
  | 0 => shiftInstr (ShiftOp.ofCode y) o
  | 1 => bitInstr (octet y) o
  | 2 => resInstr (octet y) o
  | _ => setInstr (octet y) o

/-- Why a list of bytes is no instruction. No byte value is illegal (R94); only a list may be too short. -/
inductive DecodeError where
  /-- the list is empty -/
  | noBytes
  /-- the list ends before the immediate bytes of `opcode` -/
  | missingImmediate (opcode : Byte)
deriving DecidableEq, Repr

/-- The instruction at the head of a list of bytes and the bytes after it (R81, R95). The byte 0xCB with nothing after
it is the prefix alone, the dispatcher's fetch-extended state (R34, R258). -/
def decode (bytes : List Byte) : Except DecodeError (Instr × List Byte) :=
  match bytes with
  | [] => .error .noBytes
  | op :: rest =>
    match primaryEntry op, rest with
    | .plain i, _ => .ok (i, rest)
    | .imm8 k, n :: rest' => .ok (k n, rest')
    | .imm8 _, [] => .error (.missingImmediate op)
    | .imm16 k, lo :: hi :: rest' => .ok (k (wordOf hi lo), rest')
    | .imm16 _, _ => .error (.missingImmediate op)
    | .cbTable, n :: rest' => .ok (cbInstr n, rest')
    | .cbTable, [] => .ok (.prefixCb, [])

/-- The bytes of an instruction, the first at the lowest address (R58, R85, R92, R93). -/
def encode (i : Instr) : List Byte :=
  match i with
  | .ldBCImm nn => [0x01#8, loByte nn, hiByte nn]
  | .ldBImm n => [0x06#8, n]
  | .ldAtImmSP nn => [0x08#8, loByte nn, hiByte nn]
  | .ldCImm n => [0x0E#8, n]
  | .ldDEImm nn => [0x11#8, loByte nn, hiByte nn]
  | .ldDImm n => [0x16#8, n]
  | .jr n => [0x18#8, n]
  | .ldEImm n => [0x1E#8, n]
  | .jrNZ n => [0x20#8, n]
  | .ldHLImm nn => [0x21#8, loByte nn, hiByte nn]
  | .ldHImm n => [0x26#8, n]
  | .jrZ n => [0x28#8, n]
  | .ldLImm n => [0x2E#8, n]
  | .jrNC n => [0x30#8, n]
  | .ldSPImm nn => [0x31#8, loByte nn, hiByte nn]
  | .ldAtHLImm n => [0x36#8, n]
  | .jrC n => [0x38#8, n]
  | .ldAImm n => [0x3E#8, n]
  | .jpNZ nn => [0xC2#8, loByte nn, hiByte nn]
  | .jp nn => [0xC3#8, loByte nn, hiByte nn]
  | .callNZ nn => [0xC4#8, loByte nn, hiByte nn]
  | .addAImm n => [0xC6#8, n]
  | .jpZ nn => [0xCA#8, loByte nn, hiByte nn]
  | .callZ nn => [0xCC#8, loByte nn, hiByte nn]
  | .call nn => [0xCD#8, loByte nn, hiByte nn]
  | .adcAImm n => [0xCE#8, n]
  | .jpNC nn => [0xD2#8, loByte nn, hiByte nn]
  | .callNC nn => [0xD4#8, loByte nn, hiByte nn]
  | .subImm n => [0xD6#8, n]
  | .jpC nn => [0xDA#8, loByte nn, hiByte nn]
  | .callC nn => [0xDC#8, loByte nn, hiByte nn]
  | .sbcAImm n => [0xDE#8, n]
  | .ldhAtImmA n => [0xE0#8, n]
  | .andImm n => [0xE6#8, n]
  | .addSPImm n => [0xE8#8, n]
  | .ldAtImmA nn => [0xEA#8, loByte nn, hiByte nn]
  | .xorImm n => [0xEE#8, n]
  | .ldhAAtImm n => [0xF0#8, n]
  | .orImm n => [0xF6#8, n]
  | .ldHLSPImm n => [0xF8#8, n]
  | .ldAAtImm nn => [0xFA#8, loByte nn, hiByte nn]
  | .cpImm n => [0xFE#8, n]
  | .nop => [0x00#8]
  | .ldAtBCA => [0x02#8]
  | .incBC => [0x03#8]
  | .incB => [0x04#8]
  | .decB => [0x05#8]
  | .rlca => [0x07#8]
  | .addHLBC => [0x09#8]
  | .ldAAtBC => [0x0A#8]
  | .decBC => [0x0B#8]
  | .incC => [0x0C#8]
  | .decC => [0x0D#8]
  | .rrca => [0x0F#8]
  | .stop => [0x10#8]
  | .ldAtDEA => [0x12#8]
  | .incDE => [0x13#8]
  | .incD => [0x14#8]
  | .decD => [0x15#8]
  | .rla => [0x17#8]
  | .addHLDE => [0x19#8]
  | .ldAAtDE => [0x1A#8]
  | .decDE => [0x1B#8]
  | .incE => [0x1C#8]
  | .decE => [0x1D#8]
  | .rra => [0x1F#8]
  | .ldAtHLIncA => [0x22#8]
  | .incHL => [0x23#8]
  | .incH => [0x24#8]
  | .decH => [0x25#8]
  | .daa => [0x27#8]
  | .addHLHL => [0x29#8]
  | .ldAAtHLInc => [0x2A#8]
  | .decHL => [0x2B#8]
  | .incL => [0x2C#8]
  | .decL => [0x2D#8]
  | .cpl => [0x2F#8]
  | .ldAtHLDecA => [0x32#8]
  | .incSP => [0x33#8]
  | .incAtHL => [0x34#8]
  | .decAtHL => [0x35#8]
  | .scf => [0x37#8]
  | .addHLSP => [0x39#8]
  | .ldAAtHLDec => [0x3A#8]
  | .decSP => [0x3B#8]
  | .incA => [0x3C#8]
  | .decA => [0x3D#8]
  | .ccf => [0x3F#8]
  | .ldBB => [0x40#8]
  | .ldBC => [0x41#8]
  | .ldBD => [0x42#8]
  | .ldBE => [0x43#8]
  | .ldBH => [0x44#8]
  | .ldBL => [0x45#8]
  | .ldBAtHL => [0x46#8]
  | .ldBA => [0x47#8]
  | .ldCB => [0x48#8]
  | .ldCC => [0x49#8]
  | .ldCD => [0x4A#8]
  | .ldCE => [0x4B#8]
  | .ldCH => [0x4C#8]
  | .ldCL => [0x4D#8]
  | .ldCAtHL => [0x4E#8]
  | .ldCA => [0x4F#8]
  | .ldDB => [0x50#8]
  | .ldDC => [0x51#8]
  | .ldDD => [0x52#8]
  | .ldDE => [0x53#8]
  | .ldDH => [0x54#8]
  | .ldDL => [0x55#8]
  | .ldDAtHL => [0x56#8]
  | .ldDA => [0x57#8]
  | .ldEB => [0x58#8]
  | .ldEC => [0x59#8]
  | .ldED => [0x5A#8]
  | .ldEE => [0x5B#8]
  | .ldEH => [0x5C#8]
  | .ldEL => [0x5D#8]
  | .ldEAtHL => [0x5E#8]
  | .ldEA => [0x5F#8]
  | .ldHB => [0x60#8]
  | .ldHC => [0x61#8]
  | .ldHD => [0x62#8]
  | .ldHE => [0x63#8]
  | .ldHH => [0x64#8]
  | .ldHL => [0x65#8]
  | .ldHAtHL => [0x66#8]
  | .ldHA => [0x67#8]
  | .ldLB => [0x68#8]
  | .ldLC => [0x69#8]
  | .ldLD => [0x6A#8]
  | .ldLE => [0x6B#8]
  | .ldLH => [0x6C#8]
  | .ldLL => [0x6D#8]
  | .ldLAtHL => [0x6E#8]
  | .ldLA => [0x6F#8]
  | .ldAtHLB => [0x70#8]
  | .ldAtHLC => [0x71#8]
  | .ldAtHLD => [0x72#8]
  | .ldAtHLE => [0x73#8]
  | .ldAtHLH => [0x74#8]
  | .ldAtHLL => [0x75#8]
  | .halt => [0x76#8]
  | .ldAtHLA => [0x77#8]
  | .ldAB => [0x78#8]
  | .ldAC => [0x79#8]
  | .ldAD => [0x7A#8]
  | .ldAE => [0x7B#8]
  | .ldAH => [0x7C#8]
  | .ldAL => [0x7D#8]
  | .ldAAtHL => [0x7E#8]
  | .ldAA => [0x7F#8]
  | .addAB => [0x80#8]
  | .addAC => [0x81#8]
  | .addAD => [0x82#8]
  | .addAE => [0x83#8]
  | .addAH => [0x84#8]
  | .addAL => [0x85#8]
  | .addAAtHL => [0x86#8]
  | .addAA => [0x87#8]
  | .adcAB => [0x88#8]
  | .adcAC => [0x89#8]
  | .adcAD => [0x8A#8]
  | .adcAE => [0x8B#8]
  | .adcAH => [0x8C#8]
  | .adcAL => [0x8D#8]
  | .adcAAtHL => [0x8E#8]
  | .adcAA => [0x8F#8]
  | .subB => [0x90#8]
  | .subC => [0x91#8]
  | .subD => [0x92#8]
  | .subE => [0x93#8]
  | .subH => [0x94#8]
  | .subL => [0x95#8]
  | .subAtHL => [0x96#8]
  | .subA => [0x97#8]
  | .sbcAB => [0x98#8]
  | .sbcAC => [0x99#8]
  | .sbcAD => [0x9A#8]
  | .sbcAE => [0x9B#8]
  | .sbcAH => [0x9C#8]
  | .sbcAL => [0x9D#8]
  | .sbcAAtHL => [0x9E#8]
  | .sbcAA => [0x9F#8]
  | .andB => [0xA0#8]
  | .andC => [0xA1#8]
  | .andD => [0xA2#8]
  | .andE => [0xA3#8]
  | .andH => [0xA4#8]
  | .andL => [0xA5#8]
  | .andAtHL => [0xA6#8]
  | .andA => [0xA7#8]
  | .xorB => [0xA8#8]
  | .xorC => [0xA9#8]
  | .xorD => [0xAA#8]
  | .xorE => [0xAB#8]
  | .xorH => [0xAC#8]
  | .xorL => [0xAD#8]
  | .xorAtHL => [0xAE#8]
  | .xorA => [0xAF#8]
  | .orB => [0xB0#8]
  | .orC => [0xB1#8]
  | .orD => [0xB2#8]
  | .orE => [0xB3#8]
  | .orH => [0xB4#8]
  | .orL => [0xB5#8]
  | .orAtHL => [0xB6#8]
  | .orA => [0xB7#8]
  | .cpB => [0xB8#8]
  | .cpC => [0xB9#8]
  | .cpD => [0xBA#8]
  | .cpE => [0xBB#8]
  | .cpH => [0xBC#8]
  | .cpL => [0xBD#8]
  | .cpAtHL => [0xBE#8]
  | .cpA => [0xBF#8]
  | .retNZ => [0xC0#8]
  | .popBC => [0xC1#8]
  | .pushBC => [0xC5#8]
  | .rst00 => [0xC7#8]
  | .retZ => [0xC8#8]
  | .ret => [0xC9#8]
  | .prefixCb => [0xCB#8]
  | .rst08 => [0xCF#8]
  | .retNC => [0xD0#8]
  | .popDE => [0xD1#8]
  | .reservedD3 => [0xD3#8]
  | .pushDE => [0xD5#8]
  | .rst10 => [0xD7#8]
  | .retC => [0xD8#8]
  | .reti => [0xD9#8]
  | .reservedDB => [0xDB#8]
  | .reservedDD => [0xDD#8]
  | .rst18 => [0xDF#8]
  | .popHL => [0xE1#8]
  | .ldAtCA => [0xE2#8]
  | .reservedE3 => [0xE3#8]
  | .reservedE4 => [0xE4#8]
  | .pushHL => [0xE5#8]
  | .rst20 => [0xE7#8]
  | .jpHL => [0xE9#8]
  | .reservedEB => [0xEB#8]
  | .reservedEC => [0xEC#8]
  | .reservedED => [0xED#8]
  | .rst28 => [0xEF#8]
  | .popAF => [0xF1#8]
  | .ldAAtC => [0xF2#8]
  | .di => [0xF3#8]
  | .reservedF4 => [0xF4#8]
  | .pushAF => [0xF5#8]
  | .rst30 => [0xF7#8]
  | .ldSPHL => [0xF9#8]
  | .ei => [0xFB#8]
  | .reservedFC => [0xFC#8]
  | .reservedFD => [0xFD#8]
  | .rst38 => [0xFF#8]
  | .rlcB => [0xCB#8, 0x00#8]
  | .rlcC => [0xCB#8, 0x01#8]
  | .rlcD => [0xCB#8, 0x02#8]
  | .rlcE => [0xCB#8, 0x03#8]
  | .rlcH => [0xCB#8, 0x04#8]
  | .rlcL => [0xCB#8, 0x05#8]
  | .rlcAtHL => [0xCB#8, 0x06#8]
  | .rlcA => [0xCB#8, 0x07#8]
  | .rrcB => [0xCB#8, 0x08#8]
  | .rrcC => [0xCB#8, 0x09#8]
  | .rrcD => [0xCB#8, 0x0A#8]
  | .rrcE => [0xCB#8, 0x0B#8]
  | .rrcH => [0xCB#8, 0x0C#8]
  | .rrcL => [0xCB#8, 0x0D#8]
  | .rrcAtHL => [0xCB#8, 0x0E#8]
  | .rrcA => [0xCB#8, 0x0F#8]
  | .rlB => [0xCB#8, 0x10#8]
  | .rlC => [0xCB#8, 0x11#8]
  | .rlD => [0xCB#8, 0x12#8]
  | .rlE => [0xCB#8, 0x13#8]
  | .rlH => [0xCB#8, 0x14#8]
  | .rlL => [0xCB#8, 0x15#8]
  | .rlAtHL => [0xCB#8, 0x16#8]
  | .rlA => [0xCB#8, 0x17#8]
  | .rrB => [0xCB#8, 0x18#8]
  | .rrC => [0xCB#8, 0x19#8]
  | .rrD => [0xCB#8, 0x1A#8]
  | .rrE => [0xCB#8, 0x1B#8]
  | .rrH => [0xCB#8, 0x1C#8]
  | .rrL => [0xCB#8, 0x1D#8]
  | .rrAtHL => [0xCB#8, 0x1E#8]
  | .rrA => [0xCB#8, 0x1F#8]
  | .slaB => [0xCB#8, 0x20#8]
  | .slaC => [0xCB#8, 0x21#8]
  | .slaD => [0xCB#8, 0x22#8]
  | .slaE => [0xCB#8, 0x23#8]
  | .slaH => [0xCB#8, 0x24#8]
  | .slaL => [0xCB#8, 0x25#8]
  | .slaAtHL => [0xCB#8, 0x26#8]
  | .slaA => [0xCB#8, 0x27#8]
  | .sraB => [0xCB#8, 0x28#8]
  | .sraC => [0xCB#8, 0x29#8]
  | .sraD => [0xCB#8, 0x2A#8]
  | .sraE => [0xCB#8, 0x2B#8]
  | .sraH => [0xCB#8, 0x2C#8]
  | .sraL => [0xCB#8, 0x2D#8]
  | .sraAtHL => [0xCB#8, 0x2E#8]
  | .sraA => [0xCB#8, 0x2F#8]
  | .swapB => [0xCB#8, 0x30#8]
  | .swapC => [0xCB#8, 0x31#8]
  | .swapD => [0xCB#8, 0x32#8]
  | .swapE => [0xCB#8, 0x33#8]
  | .swapH => [0xCB#8, 0x34#8]
  | .swapL => [0xCB#8, 0x35#8]
  | .swapAtHL => [0xCB#8, 0x36#8]
  | .swapA => [0xCB#8, 0x37#8]
  | .srlB => [0xCB#8, 0x38#8]
  | .srlC => [0xCB#8, 0x39#8]
  | .srlD => [0xCB#8, 0x3A#8]
  | .srlE => [0xCB#8, 0x3B#8]
  | .srlH => [0xCB#8, 0x3C#8]
  | .srlL => [0xCB#8, 0x3D#8]
  | .srlAtHL => [0xCB#8, 0x3E#8]
  | .srlA => [0xCB#8, 0x3F#8]
  | .bit0B => [0xCB#8, 0x40#8]
  | .bit0C => [0xCB#8, 0x41#8]
  | .bit0D => [0xCB#8, 0x42#8]
  | .bit0E => [0xCB#8, 0x43#8]
  | .bit0H => [0xCB#8, 0x44#8]
  | .bit0L => [0xCB#8, 0x45#8]
  | .bit0AtHL => [0xCB#8, 0x46#8]
  | .bit0A => [0xCB#8, 0x47#8]
  | .bit1B => [0xCB#8, 0x48#8]
  | .bit1C => [0xCB#8, 0x49#8]
  | .bit1D => [0xCB#8, 0x4A#8]
  | .bit1E => [0xCB#8, 0x4B#8]
  | .bit1H => [0xCB#8, 0x4C#8]
  | .bit1L => [0xCB#8, 0x4D#8]
  | .bit1AtHL => [0xCB#8, 0x4E#8]
  | .bit1A => [0xCB#8, 0x4F#8]
  | .bit2B => [0xCB#8, 0x50#8]
  | .bit2C => [0xCB#8, 0x51#8]
  | .bit2D => [0xCB#8, 0x52#8]
  | .bit2E => [0xCB#8, 0x53#8]
  | .bit2H => [0xCB#8, 0x54#8]
  | .bit2L => [0xCB#8, 0x55#8]
  | .bit2AtHL => [0xCB#8, 0x56#8]
  | .bit2A => [0xCB#8, 0x57#8]
  | .bit3B => [0xCB#8, 0x58#8]
  | .bit3C => [0xCB#8, 0x59#8]
  | .bit3D => [0xCB#8, 0x5A#8]
  | .bit3E => [0xCB#8, 0x5B#8]
  | .bit3H => [0xCB#8, 0x5C#8]
  | .bit3L => [0xCB#8, 0x5D#8]
  | .bit3AtHL => [0xCB#8, 0x5E#8]
  | .bit3A => [0xCB#8, 0x5F#8]
  | .bit4B => [0xCB#8, 0x60#8]
  | .bit4C => [0xCB#8, 0x61#8]
  | .bit4D => [0xCB#8, 0x62#8]
  | .bit4E => [0xCB#8, 0x63#8]
  | .bit4H => [0xCB#8, 0x64#8]
  | .bit4L => [0xCB#8, 0x65#8]
  | .bit4AtHL => [0xCB#8, 0x66#8]
  | .bit4A => [0xCB#8, 0x67#8]
  | .bit5B => [0xCB#8, 0x68#8]
  | .bit5C => [0xCB#8, 0x69#8]
  | .bit5D => [0xCB#8, 0x6A#8]
  | .bit5E => [0xCB#8, 0x6B#8]
  | .bit5H => [0xCB#8, 0x6C#8]
  | .bit5L => [0xCB#8, 0x6D#8]
  | .bit5AtHL => [0xCB#8, 0x6E#8]
  | .bit5A => [0xCB#8, 0x6F#8]
  | .bit6B => [0xCB#8, 0x70#8]
  | .bit6C => [0xCB#8, 0x71#8]
  | .bit6D => [0xCB#8, 0x72#8]
  | .bit6E => [0xCB#8, 0x73#8]
  | .bit6H => [0xCB#8, 0x74#8]
  | .bit6L => [0xCB#8, 0x75#8]
  | .bit6AtHL => [0xCB#8, 0x76#8]
  | .bit6A => [0xCB#8, 0x77#8]
  | .bit7B => [0xCB#8, 0x78#8]
  | .bit7C => [0xCB#8, 0x79#8]
  | .bit7D => [0xCB#8, 0x7A#8]
  | .bit7E => [0xCB#8, 0x7B#8]
  | .bit7H => [0xCB#8, 0x7C#8]
  | .bit7L => [0xCB#8, 0x7D#8]
  | .bit7AtHL => [0xCB#8, 0x7E#8]
  | .bit7A => [0xCB#8, 0x7F#8]
  | .res0B => [0xCB#8, 0x80#8]
  | .res0C => [0xCB#8, 0x81#8]
  | .res0D => [0xCB#8, 0x82#8]
  | .res0E => [0xCB#8, 0x83#8]
  | .res0H => [0xCB#8, 0x84#8]
  | .res0L => [0xCB#8, 0x85#8]
  | .res0AtHL => [0xCB#8, 0x86#8]
  | .res0A => [0xCB#8, 0x87#8]
  | .res1B => [0xCB#8, 0x88#8]
  | .res1C => [0xCB#8, 0x89#8]
  | .res1D => [0xCB#8, 0x8A#8]
  | .res1E => [0xCB#8, 0x8B#8]
  | .res1H => [0xCB#8, 0x8C#8]
  | .res1L => [0xCB#8, 0x8D#8]
  | .res1AtHL => [0xCB#8, 0x8E#8]
  | .res1A => [0xCB#8, 0x8F#8]
  | .res2B => [0xCB#8, 0x90#8]
  | .res2C => [0xCB#8, 0x91#8]
  | .res2D => [0xCB#8, 0x92#8]
  | .res2E => [0xCB#8, 0x93#8]
  | .res2H => [0xCB#8, 0x94#8]
  | .res2L => [0xCB#8, 0x95#8]
  | .res2AtHL => [0xCB#8, 0x96#8]
  | .res2A => [0xCB#8, 0x97#8]
  | .res3B => [0xCB#8, 0x98#8]
  | .res3C => [0xCB#8, 0x99#8]
  | .res3D => [0xCB#8, 0x9A#8]
  | .res3E => [0xCB#8, 0x9B#8]
  | .res3H => [0xCB#8, 0x9C#8]
  | .res3L => [0xCB#8, 0x9D#8]
  | .res3AtHL => [0xCB#8, 0x9E#8]
  | .res3A => [0xCB#8, 0x9F#8]
  | .res4B => [0xCB#8, 0xA0#8]
  | .res4C => [0xCB#8, 0xA1#8]
  | .res4D => [0xCB#8, 0xA2#8]
  | .res4E => [0xCB#8, 0xA3#8]
  | .res4H => [0xCB#8, 0xA4#8]
  | .res4L => [0xCB#8, 0xA5#8]
  | .res4AtHL => [0xCB#8, 0xA6#8]
  | .res4A => [0xCB#8, 0xA7#8]
  | .res5B => [0xCB#8, 0xA8#8]
  | .res5C => [0xCB#8, 0xA9#8]
  | .res5D => [0xCB#8, 0xAA#8]
  | .res5E => [0xCB#8, 0xAB#8]
  | .res5H => [0xCB#8, 0xAC#8]
  | .res5L => [0xCB#8, 0xAD#8]
  | .res5AtHL => [0xCB#8, 0xAE#8]
  | .res5A => [0xCB#8, 0xAF#8]
  | .res6B => [0xCB#8, 0xB0#8]
  | .res6C => [0xCB#8, 0xB1#8]
  | .res6D => [0xCB#8, 0xB2#8]
  | .res6E => [0xCB#8, 0xB3#8]
  | .res6H => [0xCB#8, 0xB4#8]
  | .res6L => [0xCB#8, 0xB5#8]
  | .res6AtHL => [0xCB#8, 0xB6#8]
  | .res6A => [0xCB#8, 0xB7#8]
  | .res7B => [0xCB#8, 0xB8#8]
  | .res7C => [0xCB#8, 0xB9#8]
  | .res7D => [0xCB#8, 0xBA#8]
  | .res7E => [0xCB#8, 0xBB#8]
  | .res7H => [0xCB#8, 0xBC#8]
  | .res7L => [0xCB#8, 0xBD#8]
  | .res7AtHL => [0xCB#8, 0xBE#8]
  | .res7A => [0xCB#8, 0xBF#8]
  | .set0B => [0xCB#8, 0xC0#8]
  | .set0C => [0xCB#8, 0xC1#8]
  | .set0D => [0xCB#8, 0xC2#8]
  | .set0E => [0xCB#8, 0xC3#8]
  | .set0H => [0xCB#8, 0xC4#8]
  | .set0L => [0xCB#8, 0xC5#8]
  | .set0AtHL => [0xCB#8, 0xC6#8]
  | .set0A => [0xCB#8, 0xC7#8]
  | .set1B => [0xCB#8, 0xC8#8]
  | .set1C => [0xCB#8, 0xC9#8]
  | .set1D => [0xCB#8, 0xCA#8]
  | .set1E => [0xCB#8, 0xCB#8]
  | .set1H => [0xCB#8, 0xCC#8]
  | .set1L => [0xCB#8, 0xCD#8]
  | .set1AtHL => [0xCB#8, 0xCE#8]
  | .set1A => [0xCB#8, 0xCF#8]
  | .set2B => [0xCB#8, 0xD0#8]
  | .set2C => [0xCB#8, 0xD1#8]
  | .set2D => [0xCB#8, 0xD2#8]
  | .set2E => [0xCB#8, 0xD3#8]
  | .set2H => [0xCB#8, 0xD4#8]
  | .set2L => [0xCB#8, 0xD5#8]
  | .set2AtHL => [0xCB#8, 0xD6#8]
  | .set2A => [0xCB#8, 0xD7#8]
  | .set3B => [0xCB#8, 0xD8#8]
  | .set3C => [0xCB#8, 0xD9#8]
  | .set3D => [0xCB#8, 0xDA#8]
  | .set3E => [0xCB#8, 0xDB#8]
  | .set3H => [0xCB#8, 0xDC#8]
  | .set3L => [0xCB#8, 0xDD#8]
  | .set3AtHL => [0xCB#8, 0xDE#8]
  | .set3A => [0xCB#8, 0xDF#8]
  | .set4B => [0xCB#8, 0xE0#8]
  | .set4C => [0xCB#8, 0xE1#8]
  | .set4D => [0xCB#8, 0xE2#8]
  | .set4E => [0xCB#8, 0xE3#8]
  | .set4H => [0xCB#8, 0xE4#8]
  | .set4L => [0xCB#8, 0xE5#8]
  | .set4AtHL => [0xCB#8, 0xE6#8]
  | .set4A => [0xCB#8, 0xE7#8]
  | .set5B => [0xCB#8, 0xE8#8]
  | .set5C => [0xCB#8, 0xE9#8]
  | .set5D => [0xCB#8, 0xEA#8]
  | .set5E => [0xCB#8, 0xEB#8]
  | .set5H => [0xCB#8, 0xEC#8]
  | .set5L => [0xCB#8, 0xED#8]
  | .set5AtHL => [0xCB#8, 0xEE#8]
  | .set5A => [0xCB#8, 0xEF#8]
  | .set6B => [0xCB#8, 0xF0#8]
  | .set6C => [0xCB#8, 0xF1#8]
  | .set6D => [0xCB#8, 0xF2#8]
  | .set6E => [0xCB#8, 0xF3#8]
  | .set6H => [0xCB#8, 0xF4#8]
  | .set6L => [0xCB#8, 0xF5#8]
  | .set6AtHL => [0xCB#8, 0xF6#8]
  | .set6A => [0xCB#8, 0xF7#8]
  | .set7B => [0xCB#8, 0xF8#8]
  | .set7C => [0xCB#8, 0xF9#8]
  | .set7D => [0xCB#8, 0xFA#8]
  | .set7E => [0xCB#8, 0xFB#8]
  | .set7H => [0xCB#8, 0xFC#8]
  | .set7L => [0xCB#8, 0xFD#8]
  | .set7AtHL => [0xCB#8, 0xFE#8]
  | .set7A => [0xCB#8, 0xFF#8]

/-- The length of the instruction whose first byte is `op`, a function of that byte alone (R85, R96). -/
def lengthOf (op : Byte) : Nat :=
  match primaryEntry op with
  | .plain _ => 1
  | .imm8 _ => 2
  | .imm16 _ => 3
  | .cbTable => 2

/-- The bytes of an instruction whose bits spec/opcode_table.json numbers as `w`, as the hardware stores them, every
byte after them zero. The first byte is in bits 7 to 0, the next in bits 15 to 8, and so on, except that the table
numbers a row behind the prefix as `0xCBnn` (first fetched byte 0xCB in bits 15 to 8; preamble of 30_encoding.md), and
that the row of the prefix byte is the one byte 0xCB with no table byte after it (R258). DEDUCED, log entry 5. -/
def tableWordBytes (nbits w : Nat) : List Byte :=
  if nbits = 16 ∧ w / 256 = 0xCB then [0xCB#8, BitVec.ofNat 8 w, 0#8]
  else if nbits = 8 ∧ w % 256 = 0xCB then [0xCB#8]
  else [BitVec.ofNat 8 w, BitVec.ofNat 8 (w / 256), BitVec.ofNat 8 (w / 65536)]

/-- The instruction the decoder reads from the table word `w` of `nbits` bits. -/
def decodeTableWord (nbits w : Nat) : Option Instr :=
  match decode (tableWordBytes nbits w) with
  | .ok (i, _) => some i
  | .error _ => none

end Sys2Proof
end

