-- ==== Sys2Proof/Config.lean ====
section
/-! DEFINITION. The named parameters of the spec (R7): what stands behind the bus, what the byte 0x10 does, how DAA
corrects after a subtraction, and the cycle costs. They are carried in the state as plain data, so that every statement
about every state holds under every value of them; `INIT_MEM` is the image a Reset takes. Their default values stand in
`Machine/Params.lean`. -/

namespace Sys2Proof

/-- `STOP_POLICY` (R7, R257, decision D3): what the byte 0x10 does. -/
inductive StopPolicy where
  /-- the step has no meaning: the run is refused -/
  | refuse
  /-- a one-byte no-op -/
  | nop1
  /-- a two-byte no-op: one more byte is fetched and discarded -/
  | nop2
  /-- treated as HALT -/
  | halt
deriving DecidableEq, Repr

/-- `DAA_SUB_MODE` (R7, R140, decision D4): which tests decide the corrections of DAA when F.N = 1. -/
inductive DaaSubMode where
  /-- the flags H and C alone -/
  | flagsOnly
  /-- the same four tests as after an addition -/
  | sameConditions
deriving DecidableEq, Repr

/-- Which opcode table an entry stands in (R91, R93). -/
inductive OpTable where
  | primary
  | cb
deriving DecidableEq, Repr

/-- What `CYCLES` is asked for (R7, R313): an entry of a table and whether its branch is taken, an idle step, or an
interrupt entry. -/
inductive CycleKey where
  | entry (table : OpTable) (op : Byte) (taken : Bool)
  | idle
  | intEntry
deriving DecidableEq, Repr

/-- The parameters no step changes. -/
structure Config where
  stopPolicy : StopPolicy
  daaSubMode : DaaSubMode
  /-- `CYCLES`: the costs that differ from the default table of R313, the first entry of a key counting; since the
  domain of `CYCLES` is finite, every such function is a list of this kind -/
  cycles : List (CycleKey × Nat)
deriving DecidableEq, Repr

/-- `Bus` (R7, R51): what is attached behind the bus. -/
inductive Bus where
  /-- the default: the flat memory the state holds, every byte readable and writable -/
  | flat
  /-- anything else, as "an oracle that answers reads" (R51): the answers in the order they are asked for, whatever the
  address, and how many have been asked for. What it does with a write the block does not learn (R53). -/
  | oracle (answers : List Byte) (asked : Nat)
deriving DecidableEq, Repr

/-- FREE VALUE (log entry 30): what an oracle answers to the read with this number once its list is used up. -/
opaque freeAnswer : Nat → Byte

end Sys2Proof
end

