-- ==== Sys2Proof/Machine/Flags.lean ====
section
/-! DEFINITION. The flag register's layout (R24) and every flag computation of the spec: the two arithmetic helpers
(R110), the logical operations (R123 to R131), INC and DEC (R135 to R138), DAA (R140), the 16-bit additions (R150,
R153) and the one-bit rotates and shifts (R160). Sums and differences are on unbounded integers (R9). -/

namespace Sys2Proof.Machine

/-- The four flags (R24). -/
structure Flags where
  z : Bool
  n : Bool
  h : Bool
  c : Bool
deriving DecidableEq, Repr

/-- The flags in their bit positions 7, 6, 5, 4, the low nibble 0 (R24, R25). -/
def Flags.toByte (fl : Flags) : Byte :=
  BitVec.ofNat 8 (128 * fl.z.toNat + 64 * fl.n.toNat + 32 * fl.h.toNat + 16 * fl.c.toNat)

/-- The flags a byte of F holds (R24). -/
def Flags.ofByte (v : Byte) : Flags := ⟨v.getLsbD 7, v.getLsbD 6, v.getLsbD 5, v.getLsbD 4⟩

/-- The mask of the bits F has (R25). -/
def flagMask : Byte := 0xF0#8

/-- `add8(a, b, cin)` (R110). -/
def add8 (a b : Byte) (cin : Bool) : Byte × Flags :=
  let sum := a.toNat + b.toNat + cin.toNat
  let res := BitVec.ofNat 8 sum
  (res, { z := res == 0#8, n := false
          h := decide (a.toNat % 16 + b.toNat % 16 + cin.toNat > 0x0F)
          c := decide (sum > 0xFF) })

/-- `sub8(a, b, cin)` (R110). -/
def sub8 (a b : Byte) (cin : Bool) : Byte × Flags :=
  let res := BitVec.ofInt 8 ((a.toNat : Int) - (b.toNat : Int) - (cin.toNat : Int))
  (res, { z := res == 0#8, n := true
          h := decide (a.toNat % 16 < b.toNat % 16 + cin.toNat)
          c := decide (a.toNat < b.toNat + cin.toNat) })

/-- The flags of a logical result: N = 0, C = 0, and the H the operation fixes (R123, R126, R129). -/
def logicFlags (res : Byte) (h : Bool) : Flags := { z := res == 0#8, n := false, h := h, c := false }

/-- The result and the flags of one of the eight operations on A (R111 to R134). CP is SUB with its result unused. -/
def aluCompute (op : AluOp) (a x : Byte) (carry : Bool) : Byte × Flags :=
  match op with
  | .add => add8 a x false
  | .adc => add8 a x carry
  | .sub => sub8 a x false
  | .sbc => sub8 a x carry
  | .and => (a &&& x, logicFlags (a &&& x) true)
  | .xor => (a ^^^ x, logicFlags (a ^^^ x) false)
  | .or => (a ||| x, logicFlags (a ||| x) false)
  | .cp => sub8 a x false

/-- 8-bit INC of `v`: Z, N = 0, H = carry out of bit 3, C kept (R135). -/
def inc8 (v : Byte) (old : Flags) : Byte × Flags :=
  let res := v + 1#8
  (res, { z := res == 0#8, n := false, h := (v &&& 0x0F#8) == 0x0F#8, c := old.c })

/-- 8-bit DEC of `v`: Z, N = 1, H = borrow into bit 4, C kept (R137). -/
def dec8 (v : Byte) (old : Flags) : Byte × Flags :=
  let res := v - 1#8
  (res, { z := res == 0#8, n := true, h := (v &&& 0x0F#8) == 0x00#8, c := old.c })

/-- DAA (R140) on the accumulator `a` with the flags `fl`: the new accumulator and flags. -/
def daaAdjust (mode : DaaSubMode) (a : Byte) (fl : Flags) : Byte × Flags :=
  let byTests := !fl.n || decide (mode = .sameConditions)
  let loFix := fl.h || (byTests && decide ((a &&& 0x0F#8).toNat > 0x09))
  let hiFix := fl.c || (byTests && decide (a.toNat > 0x99))
  let corr : Byte := (if loFix then 0x06#8 else 0x00#8) + (if hiFix then 0x60#8 else 0x00#8)
  let res := if fl.n then a - corr else a + corr
  (res, { z := res == 0#8, n := fl.n, h := false, c := hiFix || fl.c })

/-- `ADD HL,rr` (R150): H from bit 11, C from bit 15, Z kept. -/
def addHl (x y : Word) (old : Flags) : Word × Flags :=
  (x + y, { z := old.z, n := false
            h := decide (x.toNat % 0x1000 + y.toNat % 0x1000 > 0x0FFF)
            c := decide (x.toNat + y.toNat > 0xFFFF) })

/-- `addsp(sp, n)` (R153): the signed addition, its H and C from the unsigned addition of the low bytes. -/
def addSp (sp : Word) (n : Byte) : Word × Flags :=
  (sp + sext16 n, { z := false, n := false
                    h := decide (sp.toNat % 16 + n.toNat % 16 > 0x0F)
                    c := decide (sp.toNat % 256 + n.toNat > 0xFF) })

/-- The eight one-bit operations (R160): the result and the carry out. -/
def shiftCompute (op : ShiftOp) (v : Byte) (cin : Bool) : Byte × Bool :=
  let carryIn : Byte := if cin then 1#8 else 0#8
  match op with
  | .rlc => ((v <<< 1) ||| (v >>> 7), v.getLsbD 7)
  | .rrc => ((v >>> 1) ||| (v <<< 7), v.getLsbD 0)
  | .rl => ((v <<< 1) ||| carryIn, v.getLsbD 7)
  | .rr => ((v >>> 1) ||| (carryIn <<< 7), v.getLsbD 0)
  | .sla => (v <<< 1, v.getLsbD 7)
  | .sra => ((v >>> 1) ||| (v &&& 0x80#8), v.getLsbD 0)
  | .swap => ((v <<< 4) ||| (v >>> 4), false)
  | .srl => (v >>> 1, v.getLsbD 0)

/-- The flags of the CB rotates and shifts: Z from the result, N = 0, H = 0, C = carry out (R160). -/
def shiftFlags (res : Byte) (carry : Bool) : Flags := { z := res == 0#8, n := false, h := false, c := carry }

end Sys2Proof.Machine
end

