-- ==== Sys2Proof/Machine/Params.lean ====
section
/-! DEFINITION. The defaults of the spec's open parameters (R7), the one that `State.reset` supplies instead, and what an
unlisted byte of memory reads as (`INIT_MEM`, R303). -/

namespace Sys2Proof

/-- The default of `STOP_POLICY` (R7, R257, decision D3). -/
def defaultStopPolicy : StopPolicy := .refuse

/-- The default of `DAA_SUB_MODE` (R7, R140, decision D4; log entry 2, unsafe). -/
def defaultDaaSubMode : DaaSubMode := .flagsOnly

/-- The default of `CYCLES` (R7, R312): no cost differs from the table of R313. -/
def defaultCycles : List (CycleKey × Nat) := []

/-- The default parameters of R7. -/
def defaultConfig : Config := ⟨defaultStopPolicy, defaultDaaSubMode, defaultCycles⟩

/-- The policy that `State.reset` supplies for the parameter R7 leaves open. DESIGN CHOICE (log entry 1, unsafe): not the
default, which gives the byte 0x10 no meaning, but an effect among the four choices of R257, so that the instruction
runs. -/
def resetStopPolicy : StopPolicy := .nop1

/-- The parameters `State.reset` carries: the defaults, but for `STOP_POLICY`. -/
def resetConfig : Config := { defaultConfig with stopPolicy := resetStopPolicy }

/-- The default of `Bus` (R7, R51, decision D14, log entry 10). -/
def defaultBus : Bus := .flat

/-- `INIT_MEM`, the byte that an address never written holds: all zero (R7, R303; log entry 3). -/
def initByte (_ : Nat) : Byte := 0#8

end Sys2Proof
end

