-- ==== Sys2Proof/Machine/Memory.lean ====
section
/-! DEFINITION. The flat memory of 65,536 bytes behind the default bus (R33, R51, decision D14), as a list of cells in
one canonical form: addresses strictly rising and below 65,536, no cell equal to what its address reads as unlisted; and
what any `Bus` answers to a read and does to that memory on a write (R50 to R55). -/

namespace Sys2Proof.Machine

/-- The cells that differ from `initByte`. -/
abbrev Memory := List Host.Cell

/-- The byte at address `a` (R51: the most recent write, else `INIT_MEM[a]`). -/
def Memory.read (m : Memory) (a : Nat) : Byte :=
  match m with
  | [] => initByte a
  | (k, v) :: rest => if k = a then v else Memory.read rest a

/-- The list without the cells of address `a`. -/
def Memory.erase (m : Memory) (a : Nat) : Memory :=
  match m with
  | [] => []
  | (k, v) :: rest => if k = a then Memory.erase rest a else (k, v) :: Memory.erase rest a

/-- The cell placed before the first larger address. -/
def Memory.insert (m : Memory) (a : Nat) (v : Byte) : Memory :=
  match m with
  | [] => [(a, v)]
  | (k, w) :: rest => if a < k then (a, v) :: (k, w) :: rest else (k, w) :: Memory.insert rest a v

/-- `M[a] <- v` (R51). Writing what the address reads as unlisted removes its cell. -/
def Memory.write (m : Memory) (a : Nat) (v : Byte) : Memory :=
  if v = initByte a then Memory.erase m a else Memory.insert (Memory.erase m a) a v

/-- The canonical form for addresses from `lo` up. -/
def Memory.wfFrom (lo : Nat) (m : Memory) : Bool :=
  match m with
  | [] => true
  | (k, v) :: rest => decide (lo ≤ k) && decide (k < 65536) && (v != initByte k) && Memory.wfFrom (k + 1) rest

/-- The canonical form. -/
def Memory.wf (m : Memory) : Bool := Memory.wfFrom 0 m

end Sys2Proof.Machine

namespace Sys2Proof

open Sys2Proof.Machine

/-- What the bus answers to the read after `k` more reads, where the flat memory holds `stored` (R51, R52). -/
def Bus.answer (b : Bus) (k : Nat) (stored : Byte) : Byte :=
  match b with
  | .flat => stored
  | .oracle answers asked => (answers[asked + k]?).getD (freeAnswer (asked + k))

/-- The bus after `n` reads. -/
def Bus.skip (b : Bus) (n : Nat) : Bus :=
  match b with
  | .flat => .flat
  | .oracle answers asked => .oracle answers (asked + n)

/-- The flat memory after a write of `v` at address `a` (R51, R53). -/
def Bus.store (b : Bus) (m : Memory) (a : Nat) (v : Byte) : Memory :=
  match b with
  | .flat => Memory.write m a v
  | .oracle _ _ => m

end Sys2Proof
end

