-- ==== Sys2Proof/Machine/State.lean ====
section
/-! DEFINITION. The machine's state as plain data (R20 to R36), what stops a step, and the state after reset. -/

namespace Sys2Proof.Machine

/-- One byte transaction on the bus (R56): the block reads `value` at `addr`, or writes it there. -/
inductive BusEvent where
  | read (addr : Word) (value : Byte)
  | write (addr : Word) (value : Byte)
deriving DecidableEq, Repr

/-- The state of the block (R20, R27 to R31: 98 bits), what is behind its bus and the flat memory there (R51), the two
outputs of the last step (R56 the bus transactions, R312 the cycle count) and the parameters a step reads (R7).
The dispatcher's state (R34) is fetch-primary between any two steps and so needs no field. -/
structure State where
  /-- the accumulator (R20) -/
  a : Byte
  /-- the flags Z N H C in bits 7 to 4; bits 3 to 0 are always 0 (R24, R25) -/
  f : Byte
  b : Byte
  c : Byte
  d : Byte
  e : Byte
  h : Byte
  l : Byte
  /-- the stack pointer (R28) -/
  sp : Word
  /-- the address of the next instruction's first byte (R27) -/
  pc : Word
  /-- the interrupt master enable (R30) -/
  ime : Bool
  /-- the sleep state HALT enters (R31) -/
  halted : Bool
  /-- the flat memory behind the default bus (R51) -/
  mem : Memory
  /-- PARAMETER `Bus` (R7, R51): what is behind the bus; an oracle counts the reads it has answered -/
  attached : Bus
  /-- OUTPUT: the byte transactions of the last step, oldest first (R56, R60) -/
  bus : List BusEvent
  /-- OUTPUT: the clock cycles the last step reported (R312) -/
  cycles : Nat
  /-- PARAMETERS: `STOP_POLICY`, `DAA_SUB_MODE` and `CYCLES` (R7); no step changes them -/
  cfg : Config
deriving DecidableEq, Repr

/-- What stops the machine with a fault. The block raises no exception (R270). -/
inductive Fault where
  /-- R271, R272, U4: a register, pair, flag or operation selector outside its table. Nobody raises it: every field
  decoder is total over its bits, so this is the unreachable arm R272 allows. Safe. -/
  | selectorOutOfRange
deriving DecidableEq, Repr

/-- Why a step has no meaning. -/
inductive Refusal where
  /-- an instruction that has no meaning yet; no arm of `exec` answers it. Safe. -/
  | notModelled (mnemonic : String)
  /-- raised by STOP (0x10) under `STOP_POLICY = refuse` only (R257: "the model gives the step no meaning and marks
  the run refused"). Safe. -/
  | stopNotSpecified
deriving DecidableEq, Repr

/-- What a meaning answers. -/
abbrev Result := Host.Outcome State Fault Refusal

/-- The state after Reset with the given parameters, bus and memory image as `INIT_MEM` (R36, R300, R303). The
outputs hold no transaction and zero cycles: no step has run (DESIGN CHOICE, log entry 4). -/
def State.resetWith (cfg : Config) (attached : Bus) (image : Memory) : State :=
  { a := 0#8, f := 0#8, b := 0#8, c := 0#8, d := 0#8, e := 0#8, h := 0#8, l := 0#8
    sp := 0xFFFE#16, pc := 0x0000#16, ime := false, halted := false
    mem := image, attached := attached, bus := [], cycles := 0, cfg := cfg }

/-- The machine right after reset (R36, R300): `INIT_MEM` all zero, every parameter at its default but `STOP_POLICY`, for
which it supplies `resetStopPolicy` (log entry 1). -/
def State.reset : State := State.resetWith resetConfig defaultBus []

/-- The machine right after reset with every parameter at its default (R7, R36, R300): the byte 0x10 is refused. -/
def State.resetDefault : State := State.resetWith defaultConfig defaultBus []

end Sys2Proof.Machine
end

