-- ==== Sys2Proof/Machine/CycleTable.lean ====
section
/-! DEFINITION. The parameter `CYCLES` (R7, R313): the spec's default table for the output of R312, and the cost a
configuration gives. No register, flag, memory byte or PC value depends on it. PRESUMED (log entry 6): the default table
is from general knowledge, not from the source. -/

namespace Sys2Proof.Machine

/-- The cycles of the primary table, branches taken, by the high nibble of the opcode (R313). The prefix byte has the
entry of its own row; a CB instruction is charged from `cbCycles`, prefix included. -/
def primaryCycles (row : Nat) : List Nat :=
  match row with
  | 0 => [4, 12, 8, 8, 4, 4, 8, 4, 20, 8, 8, 8, 4, 4, 8, 4]
  | 1 => [4, 12, 8, 8, 4, 4, 8, 4, 12, 8, 8, 8, 4, 4, 8, 4]
  | 2 => [12, 12, 8, 8, 4, 4, 8, 4, 12, 8, 8, 8, 4, 4, 8, 4]
  | 3 => [12, 12, 8, 8, 12, 12, 12, 4, 12, 8, 8, 8, 4, 4, 8, 4]
  | 4 => [4, 4, 4, 4, 4, 4, 8, 4, 4, 4, 4, 4, 4, 4, 8, 4]
  | 5 => [4, 4, 4, 4, 4, 4, 8, 4, 4, 4, 4, 4, 4, 4, 8, 4]
  | 6 => [4, 4, 4, 4, 4, 4, 8, 4, 4, 4, 4, 4, 4, 4, 8, 4]
  | 7 => [8, 8, 8, 8, 8, 8, 4, 8, 4, 4, 4, 4, 4, 4, 8, 4]
  | 8 => [4, 4, 4, 4, 4, 4, 8, 4, 4, 4, 4, 4, 4, 4, 8, 4]
  | 9 => [4, 4, 4, 4, 4, 4, 8, 4, 4, 4, 4, 4, 4, 4, 8, 4]
  | 10 => [4, 4, 4, 4, 4, 4, 8, 4, 4, 4, 4, 4, 4, 4, 8, 4]
  | 11 => [4, 4, 4, 4, 4, 4, 8, 4, 4, 4, 4, 4, 4, 4, 8, 4]
  | 12 => [20, 12, 16, 16, 24, 16, 8, 16, 20, 16, 16, 4, 24, 24, 8, 16]
  | 13 => [20, 12, 16, 4, 24, 16, 8, 16, 20, 16, 16, 4, 24, 4, 8, 16]
  | 14 => [12, 12, 8, 4, 4, 16, 8, 16, 16, 4, 16, 4, 4, 4, 8, 16]
  | _ => [12, 12, 8, 4, 4, 16, 8, 16, 12, 8, 16, 4, 4, 4, 8, 16]

/-- The cycles of the CB table, prefix fetch included, by the high nibble of the table byte (R313). -/
def cbCycles (row : Nat) : List Nat :=
  match row with
  | 0 => [8, 8, 8, 8, 8, 8, 16, 8, 8, 8, 8, 8, 8, 8, 16, 8]
  | 1 => [8, 8, 8, 8, 8, 8, 16, 8, 8, 8, 8, 8, 8, 8, 16, 8]
  | 2 => [8, 8, 8, 8, 8, 8, 16, 8, 8, 8, 8, 8, 8, 8, 16, 8]
  | 3 => [8, 8, 8, 8, 8, 8, 16, 8, 8, 8, 8, 8, 8, 8, 16, 8]
  | 4 => [8, 8, 8, 8, 8, 8, 12, 8, 8, 8, 8, 8, 8, 8, 12, 8]
  | 5 => [8, 8, 8, 8, 8, 8, 12, 8, 8, 8, 8, 8, 8, 8, 12, 8]
  | 6 => [8, 8, 8, 8, 8, 8, 12, 8, 8, 8, 8, 8, 8, 8, 12, 8]
  | 7 => [8, 8, 8, 8, 8, 8, 12, 8, 8, 8, 8, 8, 8, 8, 12, 8]
  | 8 => [8, 8, 8, 8, 8, 8, 16, 8, 8, 8, 8, 8, 8, 8, 16, 8]
  | 9 => [8, 8, 8, 8, 8, 8, 16, 8, 8, 8, 8, 8, 8, 8, 16, 8]
  | 10 => [8, 8, 8, 8, 8, 8, 16, 8, 8, 8, 8, 8, 8, 8, 16, 8]
  | 11 => [8, 8, 8, 8, 8, 8, 16, 8, 8, 8, 8, 8, 8, 8, 16, 8]
  | 12 => [8, 8, 8, 8, 8, 8, 16, 8, 8, 8, 8, 8, 8, 8, 16, 8]
  | 13 => [8, 8, 8, 8, 8, 8, 16, 8, 8, 8, 8, 8, 8, 8, 16, 8]
  | 14 => [8, 8, 8, 8, 8, 8, 16, 8, 8, 8, 8, 8, 8, 8, 16, 8]
  | _ => [8, 8, 8, 8, 8, 8, 16, 8, 8, 8, 8, 8, 8, 8, 16, 8]

/-- The cycles of the conditional instructions when not taken (R313). -/
def notTakenCycles : List (Nat × Nat) :=
  [(0x20, 8), (0x28, 8), (0x30, 8), (0x38, 8)] ++
  [(0xC0, 8), (0xC2, 12), (0xC4, 12), (0xC8, 8)] ++
  [(0xCA, 12), (0xCC, 12), (0xD0, 8), (0xD2, 12)] ++
  [(0xD4, 12), (0xD8, 8), (0xDA, 12), (0xDC, 12)]

/-- The default of `CYCLES` (R313). -/
def defaultCost (key : CycleKey) : Nat :=
  match key with
  | .entry .cb op _ => (cbCycles (op.toNat / 16)).getD (op.toNat % 16) 8
  | .entry .primary op true => (primaryCycles (op.toNat / 16)).getD (op.toNat % 16) 4
  | .entry .primary op false =>
    ((notTakenCycles.find? (fun p => p.1 == op.toNat)).map Prod.snd).getD
      ((primaryCycles (op.toNat / 16)).getD (op.toNat % 16) 4)
  | .idle => 4
  | .intEntry => 20

/-- `CYCLES` under a configuration: the first cost listed for the key, else the default; at least 1, as "every `Step`
yields a positive integer" (R312). -/
def cycleCost (cfg : Config) (key : CycleKey) : Nat :=
  match cfg.cycles.find? (fun e => e.1 = key) with
  | some e => max 1 e.2
  | none => defaultCost key

end Sys2Proof.Machine
end

