-- ==== Sys2Proof/Machine/Ops.lean ====
section
/-! DEFINITION. The named operations over memory and the control registers: the four bus operations (R50 to R57),
the fetch primitives (R82, R83), the stack primitives (R225, R226), interrupt entry (R280) and the return from it
(R282), Wake (R278) and Reset (R300). Every operation that reads returns the value and the state after the read,
because a read is a transaction on the bus. -/

namespace Sys2Proof.Machine

/-- The byte the flat memory holds at `addr` (R51). -/
def State.ram (s : State) (addr : Word) : Byte := Memory.read s.mem addr.toNat

/-- The byte a read of address `addr` would answer after `k` more reads and no write (R51, R52). -/
def State.byteAfter (s : State) (k : Nat) (addr : Word) : Byte := s.attached.answer k (s.ram addr)

/-- The byte a read of address `addr` would answer now, without reading it. -/
def State.byteAt (s : State) (addr : Word) : Byte := s.byteAfter 0 addr

/-- The state after one read of `addr`: the transaction is appended to those of this step, and the bus has answered once
more (R60, R62). -/
def State.afterRead (s : State) (addr : Word) : State :=
  { s with attached := s.attached.skip 1, bus := s.bus ++ [.read addr (s.byteAt addr)] }

/-- `MemRead(addr, 1)` (R52). It never fails (R54). -/
def memRead8 (addr : Word) (s : State) : Byte × State := (s.byteAt addr, s.afterRead addr)

/-- `MemWrite(addr, 1, v)` (R53). It never fails (R54). -/
def memWrite8 (addr : Word) (v : Byte) (s : State) : State :=
  { s with mem := s.attached.store s.mem addr.toNat v, bus := s.bus ++ [.write addr v] }

/-- `MemRead(addr, 2)`: the low byte at `addr`, the high byte at `addr + 1` modulo 65536, low address first (R57, R73). -/
def memRead16 (addr : Word) (s : State) : Word × State :=
  let lo := memRead8 addr s
  let hi := memRead8 (addr + 1) lo.2
  (wordOf hi.1 lo.1, hi.2)

/-- `MemWrite(addr, 2, v)`: the low byte at `addr`, then the high byte at `addr + 1` modulo 65536 (R57, R73). -/
def memWrite16 (addr : Word) (v : Word) (s : State) : State :=
  memWrite8 (addr + 1) (hiByte v) (memWrite8 addr (loByte v) s)

/-- `PC <- target`. -/
def State.setPc (s : State) (target : Word) : State := { s with pc := target }

/-- `SP <- v`. -/
def State.setSp (s : State) (v : Word) : State := { s with sp := v }

/-- `ime <- v` (R30). -/
def State.setIme (s : State) (v : Bool) : State := { s with ime := v }

/-- `halted <- v` (R31). -/
def State.setHalted (s : State) (v : Bool) : State := { s with halted := v }

/-- `Fetch8()`: the read precedes the increment; PC wraps (R82, R27). -/
def fetch8 (s : State) : Byte × State :=
  let v := memRead8 s.pc s
  (v.1, v.2.setPc (s.pc + 1))

/-- `Fetch16()`: the low byte first (R83). -/
def fetch16 (s : State) : Word × State :=
  let lo := fetch8 s
  let hi := fetch8 lo.2
  (wordOf hi.1 lo.1, hi.2)

/-- `Push16(v)` (R225): SP moves down by 2, then the word is written at the new SP. -/
def push16 (v : Word) (s : State) : State := memWrite16 (s.sp - 2) v (s.setSp (s.sp - 2))

/-- `Pop16()` (R226): the word at SP is read, then SP moves up by 2. -/
def pop16 (s : State) : Word × State :=
  let v := memRead16 s.sp s
  (v.1, v.2.setSp (s.sp + 2))

/-- The five vectors `IntEntry` may be given (R280, R274). -/
inductive IntVector where
  | vblank | lcdStat | timer | serial | joypad
deriving DecidableEq, Repr

/-- The handler's address (R280: 0x0040, 0x0048, 0x0050, 0x0058, 0x0060). -/
def IntVector.address : IntVector → Word
  | .vblank => 0x0040#16
  | .lcdStat => 0x0048#16
  | .timer => 0x0050#16
  | .serial => 0x0058#16
  | .joypad => 0x0060#16

/-- Taking an interrupt, the one trap entry the spec describes (R280): allowed only with `ime` = 1; it clears `halted`
and `ime`, pushes PC and goes to the vector. It starts a transaction list of its own. -/
def intEntry (v : IntVector) (s : State) : Option State :=
  if s.ime then
    let s1 := { s with halted := false, ime := false, bus := [], cycles := cycleCost s.cfg .intEntry }
    some ((push16 s.pc s1).setPc v.address)
  else none

/-- The return from an interrupt (R282, R247): pops PC and sets `ime`. -/
def returnFromInterrupt (s : State) : State :=
  let v := pop16 s
  (v.2.setPc v.1).setIme true

/-- The host action Wake (R278): clears `halted`, changes nothing else. -/
def wake (s : State) : State := s.setHalted false

/-- The host action Reset with the memory image the driver attaches (R300, R303); the parameters and the bus stay. -/
def hostReset (image : Memory) (s : State) : State := State.resetWith s.cfg s.attached image

end Sys2Proof.Machine
end

