-- ==== Sys2Proof/Machine/Operands.lean ====
section
/-! DEFINITION. Every operand form of the spec: the 8-bit registers and the HL-indirect operand (R86), the flag
register's masked access (R21, R25), the pair views (R22) and pair codes (R87, R88, R89), the conditions (R90) and
the post-incremented HL (R23). -/

namespace Sys2Proof.Machine

/-- `read8` of the seven registers an operand code reaches (R21, R86). -/
def State.reg (s : State) : Reg8 → Byte
  | .b => s.b
  | .c => s.c
  | .d => s.d
  | .e => s.e
  | .h => s.h
  | .l => s.l
  | .a => s.a

/-- `write8` of the seven registers an operand code reaches (R21, R86). -/
def State.setReg (s : State) (r : Reg8) (v : Byte) : State :=
  match r with
  | .b => { s with b := v }
  | .c => { s with c := v }
  | .d => { s with d := v }
  | .e => { s with e := v }
  | .h => { s with h := v }
  | .l => { s with l := v }
  | .a => { s with a := v }

/-- F read whole: the low nibble reads as 0 (R25). -/
def State.flagByte (s : State) : Byte := s.f &&& flagMask

/-- F written whole: "Any write to F must clear the low nibble" (R25, R21). -/
def State.setFlagByte (s : State) (v : Byte) : State := { s with f := v &&& flagMask }

/-- The four flags (`get_flag`, R24). -/
def State.flags (s : State) : Flags := Flags.ofByte s.f

/-- All four flags written (`set_flags`, R24). -/
def State.setFlags (s : State) (fl : Flags) : State := s.setFlagByte fl.toByte

/-- The views AF, BC, DE, HL: the high byte first (R22). -/
def State.af (s : State) : Word := wordOf s.a s.flagByte

def State.bc (s : State) : Word := wordOf s.b s.c

def State.de (s : State) : Word := wordOf s.d s.e

def State.hl (s : State) : Word := wordOf s.h s.l

def State.setAf (s : State) (v : Word) : State := { s with a := hiByte v, f := loByte v &&& flagMask }

def State.setBc (s : State) (v : Word) : State := { s with b := hiByte v, c := loByte v }

def State.setDe (s : State) (v : Word) : State := { s with d := hiByte v, e := loByte v }

def State.setHl (s : State) (v : Word) : State := { s with h := hiByte v, l := loByte v }

/-- `r16[i]` (R87). -/
def State.pair (s : State) : Pair → Word
  | .bc => s.bc
  | .de => s.de
  | .hl => s.hl
  | .sp => s.sp

/-- `r16[i] <- v` (R87). -/
def State.setPair (s : State) (p : Pair) (v : Word) : State :=
  match p with
  | .bc => s.setBc v
  | .de => s.setDe v
  | .hl => s.setHl v
  | .sp => s.setSp v

/-- `r16stk[i]` (R88). -/
def State.stackPair (s : State) : StackPair → Word
  | .bc => s.bc
  | .de => s.de
  | .hl => s.hl
  | .af => s.af

/-- `r16stk[i] <- v` (R88); AF masks the flag byte (R228). -/
def State.setStackPair (s : State) (p : StackPair) (v : Word) : State :=
  match p with
  | .bc => s.setBc v
  | .de => s.setDe v
  | .hl => s.setHl v
  | .af => s.setAf v

/-- The address `r16mem[i]` gives, and the state after HL's post-increment or post-decrement (R89, R23, R199). -/
def indirect (p : MemPair) (s : State) : Word × State :=
  match p with
  | .bc => (s.bc, s)
  | .de => (s.de, s)
  | .hlInc => (s.hl, s.setHl (s.hl + 1))
  | .hlDec => (s.hl, s.setHl (s.hl - 1))

/-- `cond(cc)` (R90). -/
def State.cond (s : State) : Cond → Bool
  | .nz => !s.flags.z
  | .z => s.flags.z
  | .nc => !s.flags.c
  | .c => s.flags.c

/-- `r8[i]`: a register, or the byte at address HL read over the bus (R86). -/
def readOperand (o : Operand8) (s : State) : Byte × State :=
  match o with
  | .reg r => (s.reg r, s)
  | .atHl => memRead8 s.hl s

/-- `r8[i] <- v`: a register, or the byte at address HL written over the bus (R86). -/
def writeOperand (o : Operand8) (v : Byte) (s : State) : State :=
  match o with
  | .reg r => s.setReg r v
  | .atHl => memWrite8 s.hl v s

end Sys2Proof.Machine
end

