-- ==== Sys2Proof/Machine/Cycles.lean ====
section
/-! DEFINITION. Which entry of the cycle table the step of an instruction is charged from (R312, R313). -/

namespace Sys2Proof.Machine

/-- Whether a conditional instruction is taken in `s`; every other instruction counts as taken (R90, R313). -/
def branchTaken (i : Instr) (s : State) : Bool :=
  match i with
  | .jrNZ _ | .jpNZ _ | .callNZ _ | .retNZ => s.cond .nz
  | .jrZ _ | .jpZ _ | .callZ _ | .retZ => s.cond .z
  | .jrNC _ | .jpNC _ | .callNC _ | .retNC => s.cond .nc
  | .jrC _ | .jpC _ | .callC _ | .retC => s.cond .c
  | _ => true

/-- The entry of `CYCLES` that the step running `i` in `s` is charged from (R312, R313); a CB pair is charged from the CB
table, prefix included. -/
def instrKey (i : Instr) (s : State) : CycleKey :=
  match encode i with
  | [] => .idle
  | [op] => .entry .primary op (branchTaken i s)
  | op :: op2 :: _ => if op = 0xCB#8 then .entry .cb op2 true else .entry .primary op (branchTaken i s)

/-- The cycles the step that runs `i` in `s` reports (R312). -/
def instrCycles (i : Instr) (s : State) : Nat := cycleCost s.cfg (instrKey i s)

end Sys2Proof.Machine
end

