-- ==== Sys2Proof/Machine/Alu16.lean ====
section
/-! DEFINITION. The 16-bit arithmetic instructions (spec/41_alu16.md). -/

namespace Sys2Proof.Machine

/-- `ADD HL,rr` (R150): both operands are read before HL is written. -/
def addHlOn (p : Pair) (s : State) : Result :=
  let r := addHl s.hl (s.pair p) s.flags
  .next ((s.setHl r.1).setFlags r.2)

/-- `INC rr` (R151): no flag is written. -/
def incPairOn (p : Pair) (s : State) : Result := .next (s.setPair p (s.pair p + 1))

/-- `DEC rr` (R152): no flag is written. -/
def decPairOn (p : Pair) (s : State) : Result := .next (s.setPair p (s.pair p - 1))

/-- `ADD SP,e8` (R154). -/
def addSpOn (n : Byte) (s : State) : Result :=
  let r := addSp s.sp n
  .next ((s.setSp r.1).setFlags r.2)

/-- `ADD SP,e8`, E8: R154 -/
def execAddSPImm (n : Byte) (s : State) : Result := addSpOn n s

/-- `INC BC`, 03: R151 -/
def execIncBC (s : State) : Result := incPairOn .bc s

/-- `ADD HL,BC`, 09: R150 -/
def execAddHLBC (s : State) : Result := addHlOn .bc s

/-- `DEC BC`, 0B: R152 -/
def execDecBC (s : State) : Result := decPairOn .bc s

/-- `INC DE`, 13: R151 -/
def execIncDE (s : State) : Result := incPairOn .de s

/-- `ADD HL,DE`, 19: R150 -/
def execAddHLDE (s : State) : Result := addHlOn .de s

/-- `DEC DE`, 1B: R152 -/
def execDecDE (s : State) : Result := decPairOn .de s

/-- `INC HL`, 23: R151 -/
def execIncHL (s : State) : Result := incPairOn .hl s

/-- `ADD HL,HL`, 29: R150 -/
def execAddHLHL (s : State) : Result := addHlOn .hl s

/-- `DEC HL`, 2B: R152 -/
def execDecHL (s : State) : Result := decPairOn .hl s

/-- `INC SP`, 33: R151 -/
def execIncSP (s : State) : Result := incPairOn .sp s

/-- `ADD HL,SP`, 39: R150 -/
def execAddHLSP (s : State) : Result := addHlOn .sp s

/-- `DEC SP`, 3B: R152 -/
def execDecSP (s : State) : Result := decPairOn .sp s

end Sys2Proof.Machine
end

