-- ==== Sys2Proof/Machine/Alu8.lean ====
section
/-! DEFINITION. The 8-bit ALU instructions (spec/40_alu8.md): ADD, ADC, SUB, SBC, AND, XOR, OR, CP on a register, on
`(HL)` and on an immediate; INC and DEC; DAA, CPL, SCF, CCF. -/

namespace Sys2Proof.Machine

/-- An ALU operation on A and the byte `x`: A is written except by CP, all four flags are (R110 to R134). -/
def aluWith (op : AluOp) (x : Byte) (s : State) : State :=
  let r := aluCompute op s.a x s.flags.c
  match op with
  | .cp => s.setFlags r.2
  | _ => (s.setReg .a r.1).setFlags r.2

/-- The register and `(HL)` forms. -/
def aluOn (op : AluOp) (o : Operand8) (s : State) : Result :=
  let x := readOperand o s
  .next (aluWith op x.1 x.2)

/-- The immediate forms. -/
def aluImm (op : AluOp) (n : Byte) (s : State) : Result := .next (aluWith op n s)

/-- INC: one read, one write, F.C kept (R135, R136). -/
def incOn (o : Operand8) (s : State) : Result :=
  let v := readOperand o s
  let r := inc8 v.1 s.flags
  .next ((writeOperand o r.1 v.2).setFlags r.2)

/-- DEC: one read, one write, F.C kept (R137, R138). -/
def decOn (o : Operand8) (s : State) : Result :=
  let v := readOperand o s
  let r := dec8 v.1 s.flags
  .next ((writeOperand o r.1 v.2).setFlags r.2)

/-- DAA under the mode the state carries (R140). -/
def daaOn (s : State) : Result :=
  let r := daaAdjust s.cfg.daaSubMode s.a s.flags
  .next ((s.setReg .a r.1).setFlags r.2)

/-- `ADD A,d8`, C6: R113 -/
def execAddAImm (n : Byte) (s : State) : Result := aluImm .add n s

/-- `ADC A,d8`, CE: R116 -/
def execAdcAImm (n : Byte) (s : State) : Result := aluImm .adc n s

/-- `SUB d8`, D6: R119 -/
def execSubImm (n : Byte) (s : State) : Result := aluImm .sub n s

/-- `SBC A,d8`, DE: R122 -/
def execSbcAImm (n : Byte) (s : State) : Result := aluImm .sbc n s

/-- `AND d8`, E6: R125 -/
def execAndImm (n : Byte) (s : State) : Result := aluImm .and n s

/-- `XOR d8`, EE: R128 -/
def execXorImm (n : Byte) (s : State) : Result := aluImm .xor n s

/-- `OR d8`, F6: R131 -/
def execOrImm (n : Byte) (s : State) : Result := aluImm .or n s

/-- `CP d8`, FE: R134 -/
def execCpImm (n : Byte) (s : State) : Result := aluImm .cp n s

/-- `INC B`, 04: R135 -/
def execIncB (s : State) : Result := incOn (.reg .b) s

/-- `DEC B`, 05: R137 -/
def execDecB (s : State) : Result := decOn (.reg .b) s

/-- `INC C`, 0C: R135 -/
def execIncC (s : State) : Result := incOn (.reg .c) s

/-- `DEC C`, 0D: R137 -/
def execDecC (s : State) : Result := decOn (.reg .c) s

/-- `INC D`, 14: R135 -/
def execIncD (s : State) : Result := incOn (.reg .d) s

/-- `DEC D`, 15: R137 -/
def execDecD (s : State) : Result := decOn (.reg .d) s

/-- `INC E`, 1C: R135 -/
def execIncE (s : State) : Result := incOn (.reg .e) s

/-- `DEC E`, 1D: R137 -/
def execDecE (s : State) : Result := decOn (.reg .e) s

/-- `INC H`, 24: R135 -/
def execIncH (s : State) : Result := incOn (.reg .h) s

/-- `DEC H`, 25: R137 -/
def execDecH (s : State) : Result := decOn (.reg .h) s

/-- `DAA`, 27: R140 -/
def execDaa (s : State) : Result := daaOn s

/-- `INC L`, 2C: R135 -/
def execIncL (s : State) : Result := incOn (.reg .l) s

/-- `DEC L`, 2D: R137 -/
def execDecL (s : State) : Result := decOn (.reg .l) s

/-- `CPL`, 2F: R141 -/
def execCpl (s : State) : Result := .next ((s.setReg .a (s.a ^^^ 0xFF#8)).setFlags { s.flags with n := true, h := true })

/-- `INC (HL)`, 34: R136 -/
def execIncAtHL (s : State) : Result := incOn .atHl s

/-- `DEC (HL)`, 35: R138 -/
def execDecAtHL (s : State) : Result := decOn .atHl s

/-- `SCF`, 37: R142 -/
def execScf (s : State) : Result := .next (s.setFlags { s.flags with n := false, h := false, c := true })

/-- `INC A`, 3C: R135 -/
def execIncA (s : State) : Result := incOn (.reg .a) s

/-- `DEC A`, 3D: R137 -/
def execDecA (s : State) : Result := decOn (.reg .a) s

/-- `CCF`, 3F: R143 -/
def execCcf (s : State) : Result := .next (s.setFlags { s.flags with n := false, h := false, c := !s.flags.c })

/-- `ADD A,B`, 80: R111 -/
def execAddAB (s : State) : Result := aluOn .add (.reg .b) s

/-- `ADD A,C`, 81: R111 -/
def execAddAC (s : State) : Result := aluOn .add (.reg .c) s

/-- `ADD A,D`, 82: R111 -/
def execAddAD (s : State) : Result := aluOn .add (.reg .d) s

/-- `ADD A,E`, 83: R111 -/
def execAddAE (s : State) : Result := aluOn .add (.reg .e) s

/-- `ADD A,H`, 84: R111 -/
def execAddAH (s : State) : Result := aluOn .add (.reg .h) s

/-- `ADD A,L`, 85: R111 -/
def execAddAL (s : State) : Result := aluOn .add (.reg .l) s

/-- `ADD A,(HL)`, 86: R112 -/
def execAddAAtHL (s : State) : Result := aluOn .add .atHl s

/-- `ADD A,A`, 87: R111 -/
def execAddAA (s : State) : Result := aluOn .add (.reg .a) s

/-- `ADC A,B`, 88: R114 -/
def execAdcAB (s : State) : Result := aluOn .adc (.reg .b) s

/-- `ADC A,C`, 89: R114 -/
def execAdcAC (s : State) : Result := aluOn .adc (.reg .c) s

/-- `ADC A,D`, 8A: R114 -/
def execAdcAD (s : State) : Result := aluOn .adc (.reg .d) s

/-- `ADC A,E`, 8B: R114 -/
def execAdcAE (s : State) : Result := aluOn .adc (.reg .e) s

/-- `ADC A,H`, 8C: R114 -/
def execAdcAH (s : State) : Result := aluOn .adc (.reg .h) s

/-- `ADC A,L`, 8D: R114 -/
def execAdcAL (s : State) : Result := aluOn .adc (.reg .l) s

/-- `ADC A,(HL)`, 8E: R115 -/
def execAdcAAtHL (s : State) : Result := aluOn .adc .atHl s

/-- `ADC A,A`, 8F: R114 -/
def execAdcAA (s : State) : Result := aluOn .adc (.reg .a) s

/-- `SUB B`, 90: R117 -/
def execSubB (s : State) : Result := aluOn .sub (.reg .b) s

/-- `SUB C`, 91: R117 -/
def execSubC (s : State) : Result := aluOn .sub (.reg .c) s

/-- `SUB D`, 92: R117 -/
def execSubD (s : State) : Result := aluOn .sub (.reg .d) s

/-- `SUB E`, 93: R117 -/
def execSubE (s : State) : Result := aluOn .sub (.reg .e) s

/-- `SUB H`, 94: R117 -/
def execSubH (s : State) : Result := aluOn .sub (.reg .h) s

/-- `SUB L`, 95: R117 -/
def execSubL (s : State) : Result := aluOn .sub (.reg .l) s

/-- `SUB (HL)`, 96: R118 -/
def execSubAtHL (s : State) : Result := aluOn .sub .atHl s

/-- `SUB A`, 97: R117 -/
def execSubA (s : State) : Result := aluOn .sub (.reg .a) s

/-- `SBC A,B`, 98: R120 -/
def execSbcAB (s : State) : Result := aluOn .sbc (.reg .b) s

/-- `SBC A,C`, 99: R120 -/
def execSbcAC (s : State) : Result := aluOn .sbc (.reg .c) s

/-- `SBC A,D`, 9A: R120 -/
def execSbcAD (s : State) : Result := aluOn .sbc (.reg .d) s

/-- `SBC A,E`, 9B: R120 -/
def execSbcAE (s : State) : Result := aluOn .sbc (.reg .e) s

/-- `SBC A,H`, 9C: R120 -/
def execSbcAH (s : State) : Result := aluOn .sbc (.reg .h) s

/-- `SBC A,L`, 9D: R120 -/
def execSbcAL (s : State) : Result := aluOn .sbc (.reg .l) s

/-- `SBC A,(HL)`, 9E: R121 -/
def execSbcAAtHL (s : State) : Result := aluOn .sbc .atHl s

/-- `SBC A,A`, 9F: R120 -/
def execSbcAA (s : State) : Result := aluOn .sbc (.reg .a) s

/-- `AND B`, A0: R123 -/
def execAndB (s : State) : Result := aluOn .and (.reg .b) s

/-- `AND C`, A1: R123 -/
def execAndC (s : State) : Result := aluOn .and (.reg .c) s

/-- `AND D`, A2: R123 -/
def execAndD (s : State) : Result := aluOn .and (.reg .d) s

/-- `AND E`, A3: R123 -/
def execAndE (s : State) : Result := aluOn .and (.reg .e) s

/-- `AND H`, A4: R123 -/
def execAndH (s : State) : Result := aluOn .and (.reg .h) s

/-- `AND L`, A5: R123 -/
def execAndL (s : State) : Result := aluOn .and (.reg .l) s

/-- `AND (HL)`, A6: R124 -/
def execAndAtHL (s : State) : Result := aluOn .and .atHl s

/-- `AND A`, A7: R123 -/
def execAndA (s : State) : Result := aluOn .and (.reg .a) s

/-- `XOR B`, A8: R126 -/
def execXorB (s : State) : Result := aluOn .xor (.reg .b) s

/-- `XOR C`, A9: R126 -/
def execXorC (s : State) : Result := aluOn .xor (.reg .c) s

/-- `XOR D`, AA: R126 -/
def execXorD (s : State) : Result := aluOn .xor (.reg .d) s

/-- `XOR E`, AB: R126 -/
def execXorE (s : State) : Result := aluOn .xor (.reg .e) s

/-- `XOR H`, AC: R126 -/
def execXorH (s : State) : Result := aluOn .xor (.reg .h) s

/-- `XOR L`, AD: R126 -/
def execXorL (s : State) : Result := aluOn .xor (.reg .l) s

/-- `XOR (HL)`, AE: R127 -/
def execXorAtHL (s : State) : Result := aluOn .xor .atHl s

/-- `XOR A`, AF: R126 -/
def execXorA (s : State) : Result := aluOn .xor (.reg .a) s

/-- `OR B`, B0: R129 -/
def execOrB (s : State) : Result := aluOn .or (.reg .b) s

/-- `OR C`, B1: R129 -/
def execOrC (s : State) : Result := aluOn .or (.reg .c) s

/-- `OR D`, B2: R129 -/
def execOrD (s : State) : Result := aluOn .or (.reg .d) s

/-- `OR E`, B3: R129 -/
def execOrE (s : State) : Result := aluOn .or (.reg .e) s

/-- `OR H`, B4: R129 -/
def execOrH (s : State) : Result := aluOn .or (.reg .h) s

/-- `OR L`, B5: R129 -/
def execOrL (s : State) : Result := aluOn .or (.reg .l) s

/-- `OR (HL)`, B6: R130 -/
def execOrAtHL (s : State) : Result := aluOn .or .atHl s

/-- `OR A`, B7: R129 -/
def execOrA (s : State) : Result := aluOn .or (.reg .a) s

/-- `CP B`, B8: R132 -/
def execCpB (s : State) : Result := aluOn .cp (.reg .b) s

/-- `CP C`, B9: R132 -/
def execCpC (s : State) : Result := aluOn .cp (.reg .c) s

/-- `CP D`, BA: R132 -/
def execCpD (s : State) : Result := aluOn .cp (.reg .d) s

/-- `CP E`, BB: R132 -/
def execCpE (s : State) : Result := aluOn .cp (.reg .e) s

/-- `CP H`, BC: R132 -/
def execCpH (s : State) : Result := aluOn .cp (.reg .h) s

/-- `CP L`, BD: R132 -/
def execCpL (s : State) : Result := aluOn .cp (.reg .l) s

/-- `CP (HL)`, BE: R133 -/
def execCpAtHL (s : State) : Result := aluOn .cp .atHl s

/-- `CP A`, BF: R132 -/
def execCpA (s : State) : Result := aluOn .cp (.reg .a) s

end Sys2Proof.Machine
end

