-- ==== Sys2Proof/Machine/Bits.lean ====
section
/-! DEFINITION. BIT, RES and SET (spec/42_rotate_shift_bit.md, section 4). -/

namespace Sys2Proof.Machine

/-- `BIT b,x`: Z from the bit, N = 0, H = 1, C kept; nothing is written back (R181, R182). -/
def testBit (i : Fin 8) (o : Operand8) (s : State) : Result :=
  let v := readOperand o s
  .next (v.2.setFlags { z := (v.1 &&& bitMask i) == 0#8, n := false, h := true, c := s.flags.c })

/-- `RES b,x`: the bit cleared and the byte written back, no flag written (R183, R184). -/
def resetBit (i : Fin 8) (o : Operand8) (s : State) : Result :=
  let v := readOperand o s
  .next (writeOperand o (v.1 &&& ~~~(bitMask i)) v.2)

/-- `SET b,x`: the bit set and the byte written back, no flag written (R185, R186). -/
def setBit (i : Fin 8) (o : Operand8) (s : State) : Result :=
  let v := readOperand o s
  .next (writeOperand o (v.1 ||| bitMask i) v.2)

/-- `BIT 0,B`, CB 40: R181 -/
def execBit0B (s : State) : Result := testBit 0 (.reg .b) s

/-- `BIT 0,C`, CB 41: R181 -/
def execBit0C (s : State) : Result := testBit 0 (.reg .c) s

/-- `BIT 0,D`, CB 42: R181 -/
def execBit0D (s : State) : Result := testBit 0 (.reg .d) s

/-- `BIT 0,E`, CB 43: R181 -/
def execBit0E (s : State) : Result := testBit 0 (.reg .e) s

/-- `BIT 0,H`, CB 44: R181 -/
def execBit0H (s : State) : Result := testBit 0 (.reg .h) s

/-- `BIT 0,L`, CB 45: R181 -/
def execBit0L (s : State) : Result := testBit 0 (.reg .l) s

/-- `BIT 0,(HL)`, CB 46: R182 -/
def execBit0AtHL (s : State) : Result := testBit 0 .atHl s

/-- `BIT 0,A`, CB 47: R181 -/
def execBit0A (s : State) : Result := testBit 0 (.reg .a) s

/-- `BIT 1,B`, CB 48: R181 -/
def execBit1B (s : State) : Result := testBit 1 (.reg .b) s

/-- `BIT 1,C`, CB 49: R181 -/
def execBit1C (s : State) : Result := testBit 1 (.reg .c) s

/-- `BIT 1,D`, CB 4A: R181 -/
def execBit1D (s : State) : Result := testBit 1 (.reg .d) s

/-- `BIT 1,E`, CB 4B: R181 -/
def execBit1E (s : State) : Result := testBit 1 (.reg .e) s

/-- `BIT 1,H`, CB 4C: R181 -/
def execBit1H (s : State) : Result := testBit 1 (.reg .h) s

/-- `BIT 1,L`, CB 4D: R181 -/
def execBit1L (s : State) : Result := testBit 1 (.reg .l) s

/-- `BIT 1,(HL)`, CB 4E: R182 -/
def execBit1AtHL (s : State) : Result := testBit 1 .atHl s

/-- `BIT 1,A`, CB 4F: R181 -/
def execBit1A (s : State) : Result := testBit 1 (.reg .a) s

/-- `BIT 2,B`, CB 50: R181 -/
def execBit2B (s : State) : Result := testBit 2 (.reg .b) s

/-- `BIT 2,C`, CB 51: R181 -/
def execBit2C (s : State) : Result := testBit 2 (.reg .c) s

/-- `BIT 2,D`, CB 52: R181 -/
def execBit2D (s : State) : Result := testBit 2 (.reg .d) s

/-- `BIT 2,E`, CB 53: R181 -/
def execBit2E (s : State) : Result := testBit 2 (.reg .e) s

/-- `BIT 2,H`, CB 54: R181 -/
def execBit2H (s : State) : Result := testBit 2 (.reg .h) s

/-- `BIT 2,L`, CB 55: R181 -/
def execBit2L (s : State) : Result := testBit 2 (.reg .l) s

/-- `BIT 2,(HL)`, CB 56: R182 -/
def execBit2AtHL (s : State) : Result := testBit 2 .atHl s

/-- `BIT 2,A`, CB 57: R181 -/
def execBit2A (s : State) : Result := testBit 2 (.reg .a) s

/-- `BIT 3,B`, CB 58: R181 -/
def execBit3B (s : State) : Result := testBit 3 (.reg .b) s

/-- `BIT 3,C`, CB 59: R181 -/
def execBit3C (s : State) : Result := testBit 3 (.reg .c) s

/-- `BIT 3,D`, CB 5A: R181 -/
def execBit3D (s : State) : Result := testBit 3 (.reg .d) s

/-- `BIT 3,E`, CB 5B: R181 -/
def execBit3E (s : State) : Result := testBit 3 (.reg .e) s

/-- `BIT 3,H`, CB 5C: R181 -/
def execBit3H (s : State) : Result := testBit 3 (.reg .h) s

/-- `BIT 3,L`, CB 5D: R181 -/
def execBit3L (s : State) : Result := testBit 3 (.reg .l) s

/-- `BIT 3,(HL)`, CB 5E: R182 -/
def execBit3AtHL (s : State) : Result := testBit 3 .atHl s

/-- `BIT 3,A`, CB 5F: R181 -/
def execBit3A (s : State) : Result := testBit 3 (.reg .a) s

/-- `BIT 4,B`, CB 60: R181 -/
def execBit4B (s : State) : Result := testBit 4 (.reg .b) s

/-- `BIT 4,C`, CB 61: R181 -/
def execBit4C (s : State) : Result := testBit 4 (.reg .c) s

/-- `BIT 4,D`, CB 62: R181 -/
def execBit4D (s : State) : Result := testBit 4 (.reg .d) s

/-- `BIT 4,E`, CB 63: R181 -/
def execBit4E (s : State) : Result := testBit 4 (.reg .e) s

/-- `BIT 4,H`, CB 64: R181 -/
def execBit4H (s : State) : Result := testBit 4 (.reg .h) s

/-- `BIT 4,L`, CB 65: R181 -/
def execBit4L (s : State) : Result := testBit 4 (.reg .l) s

/-- `BIT 4,(HL)`, CB 66: R182 -/
def execBit4AtHL (s : State) : Result := testBit 4 .atHl s

/-- `BIT 4,A`, CB 67: R181 -/
def execBit4A (s : State) : Result := testBit 4 (.reg .a) s

/-- `BIT 5,B`, CB 68: R181 -/
def execBit5B (s : State) : Result := testBit 5 (.reg .b) s

/-- `BIT 5,C`, CB 69: R181 -/
def execBit5C (s : State) : Result := testBit 5 (.reg .c) s

/-- `BIT 5,D`, CB 6A: R181 -/
def execBit5D (s : State) : Result := testBit 5 (.reg .d) s

/-- `BIT 5,E`, CB 6B: R181 -/
def execBit5E (s : State) : Result := testBit 5 (.reg .e) s

/-- `BIT 5,H`, CB 6C: R181 -/
def execBit5H (s : State) : Result := testBit 5 (.reg .h) s

/-- `BIT 5,L`, CB 6D: R181 -/
def execBit5L (s : State) : Result := testBit 5 (.reg .l) s

/-- `BIT 5,(HL)`, CB 6E: R182 -/
def execBit5AtHL (s : State) : Result := testBit 5 .atHl s

/-- `BIT 5,A`, CB 6F: R181 -/
def execBit5A (s : State) : Result := testBit 5 (.reg .a) s

/-- `BIT 6,B`, CB 70: R181 -/
def execBit6B (s : State) : Result := testBit 6 (.reg .b) s

/-- `BIT 6,C`, CB 71: R181 -/
def execBit6C (s : State) : Result := testBit 6 (.reg .c) s

/-- `BIT 6,D`, CB 72: R181 -/
def execBit6D (s : State) : Result := testBit 6 (.reg .d) s

/-- `BIT 6,E`, CB 73: R181 -/
def execBit6E (s : State) : Result := testBit 6 (.reg .e) s

/-- `BIT 6,H`, CB 74: R181 -/
def execBit6H (s : State) : Result := testBit 6 (.reg .h) s

/-- `BIT 6,L`, CB 75: R181 -/
def execBit6L (s : State) : Result := testBit 6 (.reg .l) s

/-- `BIT 6,(HL)`, CB 76: R182 -/
def execBit6AtHL (s : State) : Result := testBit 6 .atHl s

/-- `BIT 6,A`, CB 77: R181 -/
def execBit6A (s : State) : Result := testBit 6 (.reg .a) s

/-- `BIT 7,B`, CB 78: R181 -/
def execBit7B (s : State) : Result := testBit 7 (.reg .b) s

/-- `BIT 7,C`, CB 79: R181 -/
def execBit7C (s : State) : Result := testBit 7 (.reg .c) s

/-- `BIT 7,D`, CB 7A: R181 -/
def execBit7D (s : State) : Result := testBit 7 (.reg .d) s

/-- `BIT 7,E`, CB 7B: R181 -/
def execBit7E (s : State) : Result := testBit 7 (.reg .e) s

/-- `BIT 7,H`, CB 7C: R181 -/
def execBit7H (s : State) : Result := testBit 7 (.reg .h) s

/-- `BIT 7,L`, CB 7D: R181 -/
def execBit7L (s : State) : Result := testBit 7 (.reg .l) s

/-- `BIT 7,(HL)`, CB 7E: R182 -/
def execBit7AtHL (s : State) : Result := testBit 7 .atHl s

/-- `BIT 7,A`, CB 7F: R181 -/
def execBit7A (s : State) : Result := testBit 7 (.reg .a) s

/-- `RES 0,B`, CB 80: R183 -/
def execRes0B (s : State) : Result := resetBit 0 (.reg .b) s

/-- `RES 0,C`, CB 81: R183 -/
def execRes0C (s : State) : Result := resetBit 0 (.reg .c) s

/-- `RES 0,D`, CB 82: R183 -/
def execRes0D (s : State) : Result := resetBit 0 (.reg .d) s

/-- `RES 0,E`, CB 83: R183 -/
def execRes0E (s : State) : Result := resetBit 0 (.reg .e) s

/-- `RES 0,H`, CB 84: R183 -/
def execRes0H (s : State) : Result := resetBit 0 (.reg .h) s

/-- `RES 0,L`, CB 85: R183 -/
def execRes0L (s : State) : Result := resetBit 0 (.reg .l) s

/-- `RES 0,(HL)`, CB 86: R184 -/
def execRes0AtHL (s : State) : Result := resetBit 0 .atHl s

/-- `RES 0,A`, CB 87: R183 -/
def execRes0A (s : State) : Result := resetBit 0 (.reg .a) s

/-- `RES 1,B`, CB 88: R183 -/
def execRes1B (s : State) : Result := resetBit 1 (.reg .b) s

/-- `RES 1,C`, CB 89: R183 -/
def execRes1C (s : State) : Result := resetBit 1 (.reg .c) s

/-- `RES 1,D`, CB 8A: R183 -/
def execRes1D (s : State) : Result := resetBit 1 (.reg .d) s

/-- `RES 1,E`, CB 8B: R183 -/
def execRes1E (s : State) : Result := resetBit 1 (.reg .e) s

/-- `RES 1,H`, CB 8C: R183 -/
def execRes1H (s : State) : Result := resetBit 1 (.reg .h) s

/-- `RES 1,L`, CB 8D: R183 -/
def execRes1L (s : State) : Result := resetBit 1 (.reg .l) s

/-- `RES 1,(HL)`, CB 8E: R184 -/
def execRes1AtHL (s : State) : Result := resetBit 1 .atHl s

/-- `RES 1,A`, CB 8F: R183 -/
def execRes1A (s : State) : Result := resetBit 1 (.reg .a) s

/-- `RES 2,B`, CB 90: R183 -/
def execRes2B (s : State) : Result := resetBit 2 (.reg .b) s

/-- `RES 2,C`, CB 91: R183 -/
def execRes2C (s : State) : Result := resetBit 2 (.reg .c) s

/-- `RES 2,D`, CB 92: R183 -/
def execRes2D (s : State) : Result := resetBit 2 (.reg .d) s

/-- `RES 2,E`, CB 93: R183 -/
def execRes2E (s : State) : Result := resetBit 2 (.reg .e) s

/-- `RES 2,H`, CB 94: R183 -/
def execRes2H (s : State) : Result := resetBit 2 (.reg .h) s

/-- `RES 2,L`, CB 95: R183 -/
def execRes2L (s : State) : Result := resetBit 2 (.reg .l) s

/-- `RES 2,(HL)`, CB 96: R184 -/
def execRes2AtHL (s : State) : Result := resetBit 2 .atHl s

/-- `RES 2,A`, CB 97: R183 -/
def execRes2A (s : State) : Result := resetBit 2 (.reg .a) s

/-- `RES 3,B`, CB 98: R183 -/
def execRes3B (s : State) : Result := resetBit 3 (.reg .b) s

/-- `RES 3,C`, CB 99: R183 -/
def execRes3C (s : State) : Result := resetBit 3 (.reg .c) s

/-- `RES 3,D`, CB 9A: R183 -/
def execRes3D (s : State) : Result := resetBit 3 (.reg .d) s

/-- `RES 3,E`, CB 9B: R183 -/
def execRes3E (s : State) : Result := resetBit 3 (.reg .e) s

/-- `RES 3,H`, CB 9C: R183 -/
def execRes3H (s : State) : Result := resetBit 3 (.reg .h) s

/-- `RES 3,L`, CB 9D: R183 -/
def execRes3L (s : State) : Result := resetBit 3 (.reg .l) s

/-- `RES 3,(HL)`, CB 9E: R184 -/
def execRes3AtHL (s : State) : Result := resetBit 3 .atHl s

/-- `RES 3,A`, CB 9F: R183 -/
def execRes3A (s : State) : Result := resetBit 3 (.reg .a) s

/-- `RES 4,B`, CB A0: R183 -/
def execRes4B (s : State) : Result := resetBit 4 (.reg .b) s

/-- `RES 4,C`, CB A1: R183 -/
def execRes4C (s : State) : Result := resetBit 4 (.reg .c) s

/-- `RES 4,D`, CB A2: R183 -/
def execRes4D (s : State) : Result := resetBit 4 (.reg .d) s

/-- `RES 4,E`, CB A3: R183 -/
def execRes4E (s : State) : Result := resetBit 4 (.reg .e) s

/-- `RES 4,H`, CB A4: R183 -/
def execRes4H (s : State) : Result := resetBit 4 (.reg .h) s

/-- `RES 4,L`, CB A5: R183 -/
def execRes4L (s : State) : Result := resetBit 4 (.reg .l) s

/-- `RES 4,(HL)`, CB A6: R184 -/
def execRes4AtHL (s : State) : Result := resetBit 4 .atHl s

/-- `RES 4,A`, CB A7: R183 -/
def execRes4A (s : State) : Result := resetBit 4 (.reg .a) s

/-- `RES 5,B`, CB A8: R183 -/
def execRes5B (s : State) : Result := resetBit 5 (.reg .b) s

/-- `RES 5,C`, CB A9: R183 -/
def execRes5C (s : State) : Result := resetBit 5 (.reg .c) s

/-- `RES 5,D`, CB AA: R183 -/
def execRes5D (s : State) : Result := resetBit 5 (.reg .d) s

/-- `RES 5,E`, CB AB: R183 -/
def execRes5E (s : State) : Result := resetBit 5 (.reg .e) s

/-- `RES 5,H`, CB AC: R183 -/
def execRes5H (s : State) : Result := resetBit 5 (.reg .h) s

/-- `RES 5,L`, CB AD: R183 -/
def execRes5L (s : State) : Result := resetBit 5 (.reg .l) s

/-- `RES 5,(HL)`, CB AE: R184 -/
def execRes5AtHL (s : State) : Result := resetBit 5 .atHl s

/-- `RES 5,A`, CB AF: R183 -/
def execRes5A (s : State) : Result := resetBit 5 (.reg .a) s

/-- `RES 6,B`, CB B0: R183 -/
def execRes6B (s : State) : Result := resetBit 6 (.reg .b) s

/-- `RES 6,C`, CB B1: R183 -/
def execRes6C (s : State) : Result := resetBit 6 (.reg .c) s

/-- `RES 6,D`, CB B2: R183 -/
def execRes6D (s : State) : Result := resetBit 6 (.reg .d) s

/-- `RES 6,E`, CB B3: R183 -/
def execRes6E (s : State) : Result := resetBit 6 (.reg .e) s

/-- `RES 6,H`, CB B4: R183 -/
def execRes6H (s : State) : Result := resetBit 6 (.reg .h) s

/-- `RES 6,L`, CB B5: R183 -/
def execRes6L (s : State) : Result := resetBit 6 (.reg .l) s

/-- `RES 6,(HL)`, CB B6: R184 -/
def execRes6AtHL (s : State) : Result := resetBit 6 .atHl s

/-- `RES 6,A`, CB B7: R183 -/
def execRes6A (s : State) : Result := resetBit 6 (.reg .a) s

/-- `RES 7,B`, CB B8: R183 -/
def execRes7B (s : State) : Result := resetBit 7 (.reg .b) s

/-- `RES 7,C`, CB B9: R183 -/
def execRes7C (s : State) : Result := resetBit 7 (.reg .c) s

/-- `RES 7,D`, CB BA: R183 -/
def execRes7D (s : State) : Result := resetBit 7 (.reg .d) s

/-- `RES 7,E`, CB BB: R183 -/
def execRes7E (s : State) : Result := resetBit 7 (.reg .e) s

/-- `RES 7,H`, CB BC: R183 -/
def execRes7H (s : State) : Result := resetBit 7 (.reg .h) s

/-- `RES 7,L`, CB BD: R183 -/
def execRes7L (s : State) : Result := resetBit 7 (.reg .l) s

/-- `RES 7,(HL)`, CB BE: R184 -/
def execRes7AtHL (s : State) : Result := resetBit 7 .atHl s

/-- `RES 7,A`, CB BF: R183 -/
def execRes7A (s : State) : Result := resetBit 7 (.reg .a) s

/-- `SET 0,B`, CB C0: R185 -/
def execSet0B (s : State) : Result := setBit 0 (.reg .b) s

/-- `SET 0,C`, CB C1: R185 -/
def execSet0C (s : State) : Result := setBit 0 (.reg .c) s

/-- `SET 0,D`, CB C2: R185 -/
def execSet0D (s : State) : Result := setBit 0 (.reg .d) s

/-- `SET 0,E`, CB C3: R185 -/
def execSet0E (s : State) : Result := setBit 0 (.reg .e) s

/-- `SET 0,H`, CB C4: R185 -/
def execSet0H (s : State) : Result := setBit 0 (.reg .h) s

/-- `SET 0,L`, CB C5: R185 -/
def execSet0L (s : State) : Result := setBit 0 (.reg .l) s

/-- `SET 0,(HL)`, CB C6: R186 -/
def execSet0AtHL (s : State) : Result := setBit 0 .atHl s

/-- `SET 0,A`, CB C7: R185 -/
def execSet0A (s : State) : Result := setBit 0 (.reg .a) s

/-- `SET 1,B`, CB C8: R185 -/
def execSet1B (s : State) : Result := setBit 1 (.reg .b) s

/-- `SET 1,C`, CB C9: R185 -/
def execSet1C (s : State) : Result := setBit 1 (.reg .c) s

/-- `SET 1,D`, CB CA: R185 -/
def execSet1D (s : State) : Result := setBit 1 (.reg .d) s

/-- `SET 1,E`, CB CB: R185 -/
def execSet1E (s : State) : Result := setBit 1 (.reg .e) s

/-- `SET 1,H`, CB CC: R185 -/
def execSet1H (s : State) : Result := setBit 1 (.reg .h) s

/-- `SET 1,L`, CB CD: R185 -/
def execSet1L (s : State) : Result := setBit 1 (.reg .l) s

/-- `SET 1,(HL)`, CB CE: R186 -/
def execSet1AtHL (s : State) : Result := setBit 1 .atHl s

/-- `SET 1,A`, CB CF: R185 -/
def execSet1A (s : State) : Result := setBit 1 (.reg .a) s

/-- `SET 2,B`, CB D0: R185 -/
def execSet2B (s : State) : Result := setBit 2 (.reg .b) s

/-- `SET 2,C`, CB D1: R185 -/
def execSet2C (s : State) : Result := setBit 2 (.reg .c) s

/-- `SET 2,D`, CB D2: R185 -/
def execSet2D (s : State) : Result := setBit 2 (.reg .d) s

/-- `SET 2,E`, CB D3: R185 -/
def execSet2E (s : State) : Result := setBit 2 (.reg .e) s

/-- `SET 2,H`, CB D4: R185 -/
def execSet2H (s : State) : Result := setBit 2 (.reg .h) s

/-- `SET 2,L`, CB D5: R185 -/
def execSet2L (s : State) : Result := setBit 2 (.reg .l) s

/-- `SET 2,(HL)`, CB D6: R186 -/
def execSet2AtHL (s : State) : Result := setBit 2 .atHl s

/-- `SET 2,A`, CB D7: R185 -/
def execSet2A (s : State) : Result := setBit 2 (.reg .a) s

/-- `SET 3,B`, CB D8: R185 -/
def execSet3B (s : State) : Result := setBit 3 (.reg .b) s

/-- `SET 3,C`, CB D9: R185 -/
def execSet3C (s : State) : Result := setBit 3 (.reg .c) s

/-- `SET 3,D`, CB DA: R185 -/
def execSet3D (s : State) : Result := setBit 3 (.reg .d) s

/-- `SET 3,E`, CB DB: R185 -/
def execSet3E (s : State) : Result := setBit 3 (.reg .e) s

/-- `SET 3,H`, CB DC: R185 -/
def execSet3H (s : State) : Result := setBit 3 (.reg .h) s

/-- `SET 3,L`, CB DD: R185 -/
def execSet3L (s : State) : Result := setBit 3 (.reg .l) s

/-- `SET 3,(HL)`, CB DE: R186 -/
def execSet3AtHL (s : State) : Result := setBit 3 .atHl s

/-- `SET 3,A`, CB DF: R185 -/
def execSet3A (s : State) : Result := setBit 3 (.reg .a) s

/-- `SET 4,B`, CB E0: R185 -/
def execSet4B (s : State) : Result := setBit 4 (.reg .b) s

/-- `SET 4,C`, CB E1: R185 -/
def execSet4C (s : State) : Result := setBit 4 (.reg .c) s

/-- `SET 4,D`, CB E2: R185 -/
def execSet4D (s : State) : Result := setBit 4 (.reg .d) s

/-- `SET 4,E`, CB E3: R185 -/
def execSet4E (s : State) : Result := setBit 4 (.reg .e) s

/-- `SET 4,H`, CB E4: R185 -/
def execSet4H (s : State) : Result := setBit 4 (.reg .h) s

/-- `SET 4,L`, CB E5: R185 -/
def execSet4L (s : State) : Result := setBit 4 (.reg .l) s

/-- `SET 4,(HL)`, CB E6: R186 -/
def execSet4AtHL (s : State) : Result := setBit 4 .atHl s

/-- `SET 4,A`, CB E7: R185 -/
def execSet4A (s : State) : Result := setBit 4 (.reg .a) s

/-- `SET 5,B`, CB E8: R185 -/
def execSet5B (s : State) : Result := setBit 5 (.reg .b) s

/-- `SET 5,C`, CB E9: R185 -/
def execSet5C (s : State) : Result := setBit 5 (.reg .c) s

/-- `SET 5,D`, CB EA: R185 -/
def execSet5D (s : State) : Result := setBit 5 (.reg .d) s

/-- `SET 5,E`, CB EB: R185 -/
def execSet5E (s : State) : Result := setBit 5 (.reg .e) s

/-- `SET 5,H`, CB EC: R185 -/
def execSet5H (s : State) : Result := setBit 5 (.reg .h) s

/-- `SET 5,L`, CB ED: R185 -/
def execSet5L (s : State) : Result := setBit 5 (.reg .l) s

/-- `SET 5,(HL)`, CB EE: R186 -/
def execSet5AtHL (s : State) : Result := setBit 5 .atHl s

/-- `SET 5,A`, CB EF: R185 -/
def execSet5A (s : State) : Result := setBit 5 (.reg .a) s

/-- `SET 6,B`, CB F0: R185 -/
def execSet6B (s : State) : Result := setBit 6 (.reg .b) s

/-- `SET 6,C`, CB F1: R185 -/
def execSet6C (s : State) : Result := setBit 6 (.reg .c) s

/-- `SET 6,D`, CB F2: R185 -/
def execSet6D (s : State) : Result := setBit 6 (.reg .d) s

/-- `SET 6,E`, CB F3: R185 -/
def execSet6E (s : State) : Result := setBit 6 (.reg .e) s

/-- `SET 6,H`, CB F4: R185 -/
def execSet6H (s : State) : Result := setBit 6 (.reg .h) s

/-- `SET 6,L`, CB F5: R185 -/
def execSet6L (s : State) : Result := setBit 6 (.reg .l) s

/-- `SET 6,(HL)`, CB F6: R186 -/
def execSet6AtHL (s : State) : Result := setBit 6 .atHl s

/-- `SET 6,A`, CB F7: R185 -/
def execSet6A (s : State) : Result := setBit 6 (.reg .a) s

/-- `SET 7,B`, CB F8: R185 -/
def execSet7B (s : State) : Result := setBit 7 (.reg .b) s

/-- `SET 7,C`, CB F9: R185 -/
def execSet7C (s : State) : Result := setBit 7 (.reg .c) s

/-- `SET 7,D`, CB FA: R185 -/
def execSet7D (s : State) : Result := setBit 7 (.reg .d) s

/-- `SET 7,E`, CB FB: R185 -/
def execSet7E (s : State) : Result := setBit 7 (.reg .e) s

/-- `SET 7,H`, CB FC: R185 -/
def execSet7H (s : State) : Result := setBit 7 (.reg .h) s

/-- `SET 7,L`, CB FD: R185 -/
def execSet7L (s : State) : Result := setBit 7 (.reg .l) s

/-- `SET 7,(HL)`, CB FE: R186 -/
def execSet7AtHL (s : State) : Result := setBit 7 .atHl s

/-- `SET 7,A`, CB FF: R185 -/
def execSet7A (s : State) : Result := setBit 7 (.reg .a) s

end Sys2Proof.Machine
end

