-- ==== Sys2Proof/Machine/Control.lean ====
section
/-! DEFINITION. Control transfer (spec/45_control.md). PC is already past the whole instruction (R27). No flag is
written (R235). -/

namespace Sys2Proof.Machine

/-- JR: the offset counts from the address after the instruction and the sum wraps (R236, R237). -/
def jrIf (taken : Bool) (n : Byte) (s : State) : Result :=
  .next (if taken then s.setPc (s.pc + sext16 n) else s)

/-- JP to an immediate address (R238, R239). -/
def jpIf (taken : Bool) (nn : Word) (s : State) : Result := .next (if taken then s.setPc nn else s)

/-- CALL: the address of the next instruction is pushed (R241, R242). -/
def callIf (taken : Bool) (nn : Word) (s : State) : Result :=
  .next (if taken then (push16 s.pc s).setPc nn else s)

/-- RET: PC is popped; not taken, the stack is not read (R243, R244). -/
def retIf (taken : Bool) (s : State) : Result :=
  .next (if taken then (pop16 s).2.setPc (pop16 s).1 else s)

/-- RST: a one-byte call of the address `ttt * 8` (R245). -/
def restart (i : Fin 8) (s : State) : Result :=
  .next ((push16 s.pc s).setPc (BitVec.ofNat 16 (i.val * 8)))

/-- `JR e8`, 18: R236 -/
def execJr (n : Byte) (s : State) : Result := jrIf true n s

/-- `JR NZ,e8`, 20: R237 -/
def execJrNZ (n : Byte) (s : State) : Result := jrIf (s.cond .nz) n s

/-- `JR Z,e8`, 28: R237 -/
def execJrZ (n : Byte) (s : State) : Result := jrIf (s.cond .z) n s

/-- `JR NC,e8`, 30: R237 -/
def execJrNC (n : Byte) (s : State) : Result := jrIf (s.cond .nc) n s

/-- `JR C,e8`, 38: R237 -/
def execJrC (n : Byte) (s : State) : Result := jrIf (s.cond .c) n s

/-- `JP NZ,a16`, C2: R239 -/
def execJpNZ (nn : Word) (s : State) : Result := jpIf (s.cond .nz) nn s

/-- `JP a16`, C3: R238 -/
def execJp (nn : Word) (s : State) : Result := jpIf true nn s

/-- `CALL NZ,a16`, C4: R242 -/
def execCallNZ (nn : Word) (s : State) : Result := callIf (s.cond .nz) nn s

/-- `JP Z,a16`, CA: R239 -/
def execJpZ (nn : Word) (s : State) : Result := jpIf (s.cond .z) nn s

/-- `CALL Z,a16`, CC: R242 -/
def execCallZ (nn : Word) (s : State) : Result := callIf (s.cond .z) nn s

/-- `CALL a16`, CD: R241 -/
def execCall (nn : Word) (s : State) : Result := callIf true nn s

/-- `JP NC,a16`, D2: R239 -/
def execJpNC (nn : Word) (s : State) : Result := jpIf (s.cond .nc) nn s

/-- `CALL NC,a16`, D4: R242 -/
def execCallNC (nn : Word) (s : State) : Result := callIf (s.cond .nc) nn s

/-- `JP C,a16`, DA: R239 -/
def execJpC (nn : Word) (s : State) : Result := jpIf (s.cond .c) nn s

/-- `CALL C,a16`, DC: R242 -/
def execCallC (nn : Word) (s : State) : Result := callIf (s.cond .c) nn s

/-- `RET NZ`, C0: R244 -/
def execRetNZ (s : State) : Result := retIf (s.cond .nz) s

/-- `RST 00H`, C7: R245 -/
def execRst00 (s : State) : Result := restart 0 s

/-- `RET Z`, C8: R244 -/
def execRetZ (s : State) : Result := retIf (s.cond .z) s

/-- `RET`, C9: R243 -/
def execRet (s : State) : Result := retIf true s

/-- `RST 08H`, CF: R245 -/
def execRst08 (s : State) : Result := restart 1 s

/-- `RET NC`, D0: R244 -/
def execRetNC (s : State) : Result := retIf (s.cond .nc) s

/-- `RST 10H`, D7: R245 -/
def execRst10 (s : State) : Result := restart 2 s

/-- `RET C`, D8: R244 -/
def execRetC (s : State) : Result := retIf (s.cond .c) s

/-- `RETI`, D9: R247 -/
def execReti (s : State) : Result := .next (returnFromInterrupt s)

/-- `RST 18H`, DF: R245 -/
def execRst18 (s : State) : Result := restart 3 s

/-- `RST 20H`, E7: R245 -/
def execRst20 (s : State) : Result := restart 4 s

/-- `JP HL`, E9: R240 -/
def execJpHL (s : State) : Result := .next (s.setPc s.hl)

/-- `RST 28H`, EF: R245 -/
def execRst28 (s : State) : Result := restart 5 s

/-- `RST 30H`, F7: R245 -/
def execRst30 (s : State) : Result := restart 6 s

/-- `RST 38H`, FF: R245 -/
def execRst38 (s : State) : Result := restart 7 s

end Sys2Proof.Machine
end

