-- ==== Sys2Proof/Machine/Load16.lean ====
section
/-! DEFINITION. The 16-bit loads and the stack (spec/44_load16_stack.md). -/

namespace Sys2Proof.Machine

/-- `LD HL,SP+e8` (R224): SP is not written. -/
def ldHlSp (n : Byte) (s : State) : Result :=
  let r := addSp s.sp n
  .next ((s.setHl r.1).setFlags r.2)

/-- PUSH (R227). -/
def pushPair (p : StackPair) (s : State) : Result := .next (push16 (s.stackPair p) s)

/-- POP (R228, R229). -/
def popPair (p : StackPair) (s : State) : Result :=
  let v := pop16 s
  .next (v.2.setStackPair p v.1)

/-- `LD BC,d16`, 01: R220 -/
def execLdBCImm (nn : Word) (s : State) : Result := .next (s.setPair .bc nn)

/-- `LD (a16),SP`, 08: R221 -/
def execLdAtImmSP (nn : Word) (s : State) : Result := .next (memWrite16 nn s.sp s)

/-- `LD DE,d16`, 11: R220 -/
def execLdDEImm (nn : Word) (s : State) : Result := .next (s.setPair .de nn)

/-- `LD HL,d16`, 21: R220 -/
def execLdHLImm (nn : Word) (s : State) : Result := .next (s.setPair .hl nn)

/-- `LD SP,d16`, 31: R220 -/
def execLdSPImm (nn : Word) (s : State) : Result := .next (s.setPair .sp nn)

/-- `LD HL,SP+e8`, F8: R224 -/
def execLdHLSPImm (n : Byte) (s : State) : Result := ldHlSp n s

/-- `POP BC`, C1: R229 -/
def execPopBC (s : State) : Result := popPair .bc s

/-- `PUSH BC`, C5: R227 -/
def execPushBC (s : State) : Result := pushPair .bc s

/-- `POP DE`, D1: R229 -/
def execPopDE (s : State) : Result := popPair .de s

/-- `PUSH DE`, D5: R227 -/
def execPushDE (s : State) : Result := pushPair .de s

/-- `POP HL`, E1: R229 -/
def execPopHL (s : State) : Result := popPair .hl s

/-- `PUSH HL`, E5: R227 -/
def execPushHL (s : State) : Result := pushPair .hl s

/-- `POP AF`, F1: R228 -/
def execPopAF (s : State) : Result := popPair .af s

/-- `PUSH AF`, F5: R227 -/
def execPushAF (s : State) : Result := pushPair .af s

/-- `LD SP,HL`, F9: R222 -/
def execLdSPHL (s : State) : Result := .next (s.setSp s.hl)

end Sys2Proof.Machine
end

