-- ==== Sys2Proof/Machine/Load8.lean ====
section
/-! DEFINITION. The 8-bit loads and stores (spec/43_load8.md). No flag is written (R199). -/

namespace Sys2Proof.Machine

/-- A move between two `r8` operands (R190, R192, R193): the source is read, then the destination is written. -/
def ldOn (dst src : Operand8) (s : State) : Result :=
  let v := readOperand src s
  .next (writeOperand dst v.1 v.2)

/-- An immediate byte to an `r8` operand (R191, R194). -/
def ldImmOn (dst : Operand8) (n : Byte) (s : State) : Result := .next (writeOperand dst n s)

/-- A stored through a pair; HL+ and HL- move after the address is taken (R197, R198, R200, R201). -/
def storeAVia (p : MemPair) (s : State) : Result :=
  let at1 := indirect p s
  .next (memWrite8 at1.1 s.a at1.2)

/-- A loaded through a pair (R195, R196, R202, R203). -/
def loadAVia (p : MemPair) (s : State) : Result :=
  let at1 := indirect p s
  let v := memRead8 at1.1 at1.2
  .next (v.2.setReg .a v.1)

/-- A stored at an address (R204, R206, R208). -/
def storeAAt (addr : Word) (s : State) : Result := .next (memWrite8 addr s.a s)

/-- A loaded from an address (R205, R207, R209). -/
def loadAAt (addr : Word) (s : State) : Result :=
  let v := memRead8 addr s
  .next (v.2.setReg .a v.1)

/-- `LD B,d8`, 06: R191 -/
def execLdBImm (n : Byte) (s : State) : Result := ldImmOn (.reg .b) n s

/-- `LD C,d8`, 0E: R191 -/
def execLdCImm (n : Byte) (s : State) : Result := ldImmOn (.reg .c) n s

/-- `LD D,d8`, 16: R191 -/
def execLdDImm (n : Byte) (s : State) : Result := ldImmOn (.reg .d) n s

/-- `LD E,d8`, 1E: R191 -/
def execLdEImm (n : Byte) (s : State) : Result := ldImmOn (.reg .e) n s

/-- `LD H,d8`, 26: R191 -/
def execLdHImm (n : Byte) (s : State) : Result := ldImmOn (.reg .h) n s

/-- `LD L,d8`, 2E: R191 -/
def execLdLImm (n : Byte) (s : State) : Result := ldImmOn (.reg .l) n s

/-- `LD (HL),d8`, 36: R194 -/
def execLdAtHLImm (n : Byte) (s : State) : Result := ldImmOn .atHl n s

/-- `LD A,d8`, 3E: R191 -/
def execLdAImm (n : Byte) (s : State) : Result := ldImmOn (.reg .a) n s

/-- `LDH (a8),A`, E0: R204 -/
def execLdhAtImmA (n : Byte) (s : State) : Result := storeAAt (highPage n) s

/-- `LD (a16),A`, EA: R208 -/
def execLdAtImmA (nn : Word) (s : State) : Result := storeAAt nn s

/-- `LDH A,(a8)`, F0: R205 -/
def execLdhAAtImm (n : Byte) (s : State) : Result := loadAAt (highPage n) s

/-- `LD A,(a16)`, FA: R209 -/
def execLdAAtImm (nn : Word) (s : State) : Result := loadAAt nn s

/-- `LD (BC),A`, 02: R197 -/
def execLdAtBCA (s : State) : Result := storeAVia .bc s

/-- `LD A,(BC)`, 0A: R195 -/
def execLdAAtBC (s : State) : Result := loadAVia .bc s

/-- `LD (DE),A`, 12: R198 -/
def execLdAtDEA (s : State) : Result := storeAVia .de s

/-- `LD A,(DE)`, 1A: R196 -/
def execLdAAtDE (s : State) : Result := loadAVia .de s

/-- `LD (HL+),A`, 22: R200 -/
def execLdAtHLIncA (s : State) : Result := storeAVia .hlInc s

/-- `LD A,(HL+)`, 2A: R202 -/
def execLdAAtHLInc (s : State) : Result := loadAVia .hlInc s

/-- `LD (HL-),A`, 32: R201 -/
def execLdAtHLDecA (s : State) : Result := storeAVia .hlDec s

/-- `LD A,(HL-)`, 3A: R203 -/
def execLdAAtHLDec (s : State) : Result := loadAVia .hlDec s

/-- `LD B,B`, 40: R190 -/
def execLdBB (s : State) : Result := ldOn (.reg .b) (.reg .b) s

/-- `LD B,C`, 41: R190 -/
def execLdBC (s : State) : Result := ldOn (.reg .b) (.reg .c) s

/-- `LD B,D`, 42: R190 -/
def execLdBD (s : State) : Result := ldOn (.reg .b) (.reg .d) s

/-- `LD B,E`, 43: R190 -/
def execLdBE (s : State) : Result := ldOn (.reg .b) (.reg .e) s

/-- `LD B,H`, 44: R190 -/
def execLdBH (s : State) : Result := ldOn (.reg .b) (.reg .h) s

/-- `LD B,L`, 45: R190 -/
def execLdBL (s : State) : Result := ldOn (.reg .b) (.reg .l) s

/-- `LD B,(HL)`, 46: R192 -/
def execLdBAtHL (s : State) : Result := ldOn (.reg .b) .atHl s

/-- `LD B,A`, 47: R190 -/
def execLdBA (s : State) : Result := ldOn (.reg .b) (.reg .a) s

/-- `LD C,B`, 48: R190 -/
def execLdCB (s : State) : Result := ldOn (.reg .c) (.reg .b) s

/-- `LD C,C`, 49: R190 -/
def execLdCC (s : State) : Result := ldOn (.reg .c) (.reg .c) s

/-- `LD C,D`, 4A: R190 -/
def execLdCD (s : State) : Result := ldOn (.reg .c) (.reg .d) s

/-- `LD C,E`, 4B: R190 -/
def execLdCE (s : State) : Result := ldOn (.reg .c) (.reg .e) s

/-- `LD C,H`, 4C: R190 -/
def execLdCH (s : State) : Result := ldOn (.reg .c) (.reg .h) s

/-- `LD C,L`, 4D: R190 -/
def execLdCL (s : State) : Result := ldOn (.reg .c) (.reg .l) s

/-- `LD C,(HL)`, 4E: R192 -/
def execLdCAtHL (s : State) : Result := ldOn (.reg .c) .atHl s

/-- `LD C,A`, 4F: R190 -/
def execLdCA (s : State) : Result := ldOn (.reg .c) (.reg .a) s

/-- `LD D,B`, 50: R190 -/
def execLdDB (s : State) : Result := ldOn (.reg .d) (.reg .b) s

/-- `LD D,C`, 51: R190 -/
def execLdDC (s : State) : Result := ldOn (.reg .d) (.reg .c) s

/-- `LD D,D`, 52: R190 -/
def execLdDD (s : State) : Result := ldOn (.reg .d) (.reg .d) s

/-- `LD D,E`, 53: R190 -/
def execLdDE (s : State) : Result := ldOn (.reg .d) (.reg .e) s

/-- `LD D,H`, 54: R190 -/
def execLdDH (s : State) : Result := ldOn (.reg .d) (.reg .h) s

/-- `LD D,L`, 55: R190 -/
def execLdDL (s : State) : Result := ldOn (.reg .d) (.reg .l) s

/-- `LD D,(HL)`, 56: R192 -/
def execLdDAtHL (s : State) : Result := ldOn (.reg .d) .atHl s

/-- `LD D,A`, 57: R190 -/
def execLdDA (s : State) : Result := ldOn (.reg .d) (.reg .a) s

/-- `LD E,B`, 58: R190 -/
def execLdEB (s : State) : Result := ldOn (.reg .e) (.reg .b) s

/-- `LD E,C`, 59: R190 -/
def execLdEC (s : State) : Result := ldOn (.reg .e) (.reg .c) s

/-- `LD E,D`, 5A: R190 -/
def execLdED (s : State) : Result := ldOn (.reg .e) (.reg .d) s

/-- `LD E,E`, 5B: R190 -/
def execLdEE (s : State) : Result := ldOn (.reg .e) (.reg .e) s

/-- `LD E,H`, 5C: R190 -/
def execLdEH (s : State) : Result := ldOn (.reg .e) (.reg .h) s

/-- `LD E,L`, 5D: R190 -/
def execLdEL (s : State) : Result := ldOn (.reg .e) (.reg .l) s

/-- `LD E,(HL)`, 5E: R192 -/
def execLdEAtHL (s : State) : Result := ldOn (.reg .e) .atHl s

/-- `LD E,A`, 5F: R190 -/
def execLdEA (s : State) : Result := ldOn (.reg .e) (.reg .a) s

/-- `LD H,B`, 60: R190 -/
def execLdHB (s : State) : Result := ldOn (.reg .h) (.reg .b) s

/-- `LD H,C`, 61: R190 -/
def execLdHC (s : State) : Result := ldOn (.reg .h) (.reg .c) s

/-- `LD H,D`, 62: R190 -/
def execLdHD (s : State) : Result := ldOn (.reg .h) (.reg .d) s

/-- `LD H,E`, 63: R190 -/
def execLdHE (s : State) : Result := ldOn (.reg .h) (.reg .e) s

/-- `LD H,H`, 64: R190 -/
def execLdHH (s : State) : Result := ldOn (.reg .h) (.reg .h) s

/-- `LD H,L`, 65: R190 -/
def execLdHL (s : State) : Result := ldOn (.reg .h) (.reg .l) s

/-- `LD H,(HL)`, 66: R192 -/
def execLdHAtHL (s : State) : Result := ldOn (.reg .h) .atHl s

/-- `LD H,A`, 67: R190 -/
def execLdHA (s : State) : Result := ldOn (.reg .h) (.reg .a) s

/-- `LD L,B`, 68: R190 -/
def execLdLB (s : State) : Result := ldOn (.reg .l) (.reg .b) s

/-- `LD L,C`, 69: R190 -/
def execLdLC (s : State) : Result := ldOn (.reg .l) (.reg .c) s

/-- `LD L,D`, 6A: R190 -/
def execLdLD (s : State) : Result := ldOn (.reg .l) (.reg .d) s

/-- `LD L,E`, 6B: R190 -/
def execLdLE (s : State) : Result := ldOn (.reg .l) (.reg .e) s

/-- `LD L,H`, 6C: R190 -/
def execLdLH (s : State) : Result := ldOn (.reg .l) (.reg .h) s

/-- `LD L,L`, 6D: R190 -/
def execLdLL (s : State) : Result := ldOn (.reg .l) (.reg .l) s

/-- `LD L,(HL)`, 6E: R192 -/
def execLdLAtHL (s : State) : Result := ldOn (.reg .l) .atHl s

/-- `LD L,A`, 6F: R190 -/
def execLdLA (s : State) : Result := ldOn (.reg .l) (.reg .a) s

/-- `LD (HL),B`, 70: R193 -/
def execLdAtHLB (s : State) : Result := ldOn .atHl (.reg .b) s

/-- `LD (HL),C`, 71: R193 -/
def execLdAtHLC (s : State) : Result := ldOn .atHl (.reg .c) s

/-- `LD (HL),D`, 72: R193 -/
def execLdAtHLD (s : State) : Result := ldOn .atHl (.reg .d) s

/-- `LD (HL),E`, 73: R193 -/
def execLdAtHLE (s : State) : Result := ldOn .atHl (.reg .e) s

/-- `LD (HL),H`, 74: R193 -/
def execLdAtHLH (s : State) : Result := ldOn .atHl (.reg .h) s

/-- `LD (HL),L`, 75: R193 -/
def execLdAtHLL (s : State) : Result := ldOn .atHl (.reg .l) s

/-- `LD (HL),A`, 77: R193 -/
def execLdAtHLA (s : State) : Result := ldOn .atHl (.reg .a) s

/-- `LD A,B`, 78: R190 -/
def execLdAB (s : State) : Result := ldOn (.reg .a) (.reg .b) s

/-- `LD A,C`, 79: R190 -/
def execLdAC (s : State) : Result := ldOn (.reg .a) (.reg .c) s

/-- `LD A,D`, 7A: R190 -/
def execLdAD (s : State) : Result := ldOn (.reg .a) (.reg .d) s

/-- `LD A,E`, 7B: R190 -/
def execLdAE (s : State) : Result := ldOn (.reg .a) (.reg .e) s

/-- `LD A,H`, 7C: R190 -/
def execLdAH (s : State) : Result := ldOn (.reg .a) (.reg .h) s

/-- `LD A,L`, 7D: R190 -/
def execLdAL (s : State) : Result := ldOn (.reg .a) (.reg .l) s

/-- `LD A,(HL)`, 7E: R192 -/
def execLdAAtHL (s : State) : Result := ldOn (.reg .a) .atHl s

/-- `LD A,A`, 7F: R190 -/
def execLdAA (s : State) : Result := ldOn (.reg .a) (.reg .a) s

/-- `LD (C),A`, E2: R206 -/
def execLdAtCA (s : State) : Result := storeAAt (highPage s.c) s

/-- `LD A,(C)`, F2: R207 -/
def execLdAAtC (s : State) : Result := loadAAt (highPage s.c) s

end Sys2Proof.Machine
end

