-- ==== Sys2Proof/Machine/Rotate.lean ====
section
/-! DEFINITION. The legacy rotates of A and the CB rotates and shifts (spec/42_rotate_shift_bit.md, sections 1 to 3). -/

namespace Sys2Proof.Machine

/-- A legacy rotate of A: Z = 0 always (R161 to R164). -/
def rotateA (op : ShiftOp) (s : State) : Result :=
  let r := shiftCompute op s.a s.flags.c
  .next ((s.setReg .a r.1).setFlags { z := false, n := false, h := false, c := r.2 })

/-- A CB rotate or shift of an `r8` operand: one read, one write (R165 to R180). -/
def shiftOn (op : ShiftOp) (o : Operand8) (s : State) : Result :=
  let v := readOperand o s
  let r := shiftCompute op v.1 s.flags.c
  .next ((writeOperand o r.1 v.2).setFlags (shiftFlags r.1 r.2))

/-- `RLCA`, 07: R161 -/
def execRlca (s : State) : Result := rotateA .rlc s

/-- `RRCA`, 0F: R162 -/
def execRrca (s : State) : Result := rotateA .rrc s

/-- `RLA`, 17: R163 -/
def execRla (s : State) : Result := rotateA .rl s

/-- `RRA`, 1F: R164 -/
def execRra (s : State) : Result := rotateA .rr s

/-- `RLC B`, CB 00: R165 -/
def execRlcB (s : State) : Result := shiftOn .rlc (.reg .b) s

/-- `RLC C`, CB 01: R165 -/
def execRlcC (s : State) : Result := shiftOn .rlc (.reg .c) s

/-- `RLC D`, CB 02: R165 -/
def execRlcD (s : State) : Result := shiftOn .rlc (.reg .d) s

/-- `RLC E`, CB 03: R165 -/
def execRlcE (s : State) : Result := shiftOn .rlc (.reg .e) s

/-- `RLC H`, CB 04: R165 -/
def execRlcH (s : State) : Result := shiftOn .rlc (.reg .h) s

/-- `RLC L`, CB 05: R165 -/
def execRlcL (s : State) : Result := shiftOn .rlc (.reg .l) s

/-- `RLC (HL)`, CB 06: R166 -/
def execRlcAtHL (s : State) : Result := shiftOn .rlc .atHl s

/-- `RLC A`, CB 07: R165 -/
def execRlcA (s : State) : Result := shiftOn .rlc (.reg .a) s

/-- `RRC B`, CB 08: R167 -/
def execRrcB (s : State) : Result := shiftOn .rrc (.reg .b) s

/-- `RRC C`, CB 09: R167 -/
def execRrcC (s : State) : Result := shiftOn .rrc (.reg .c) s

/-- `RRC D`, CB 0A: R167 -/
def execRrcD (s : State) : Result := shiftOn .rrc (.reg .d) s

/-- `RRC E`, CB 0B: R167 -/
def execRrcE (s : State) : Result := shiftOn .rrc (.reg .e) s

/-- `RRC H`, CB 0C: R167 -/
def execRrcH (s : State) : Result := shiftOn .rrc (.reg .h) s

/-- `RRC L`, CB 0D: R167 -/
def execRrcL (s : State) : Result := shiftOn .rrc (.reg .l) s

/-- `RRC (HL)`, CB 0E: R168 -/
def execRrcAtHL (s : State) : Result := shiftOn .rrc .atHl s

/-- `RRC A`, CB 0F: R167 -/
def execRrcA (s : State) : Result := shiftOn .rrc (.reg .a) s

/-- `RL B`, CB 10: R169 -/
def execRlB (s : State) : Result := shiftOn .rl (.reg .b) s

/-- `RL C`, CB 11: R169 -/
def execRlC (s : State) : Result := shiftOn .rl (.reg .c) s

/-- `RL D`, CB 12: R169 -/
def execRlD (s : State) : Result := shiftOn .rl (.reg .d) s

/-- `RL E`, CB 13: R169 -/
def execRlE (s : State) : Result := shiftOn .rl (.reg .e) s

/-- `RL H`, CB 14: R169 -/
def execRlH (s : State) : Result := shiftOn .rl (.reg .h) s

/-- `RL L`, CB 15: R169 -/
def execRlL (s : State) : Result := shiftOn .rl (.reg .l) s

/-- `RL (HL)`, CB 16: R170 -/
def execRlAtHL (s : State) : Result := shiftOn .rl .atHl s

/-- `RL A`, CB 17: R169 -/
def execRlA (s : State) : Result := shiftOn .rl (.reg .a) s

/-- `RR B`, CB 18: R171 -/
def execRrB (s : State) : Result := shiftOn .rr (.reg .b) s

/-- `RR C`, CB 19: R171 -/
def execRrC (s : State) : Result := shiftOn .rr (.reg .c) s

/-- `RR D`, CB 1A: R171 -/
def execRrD (s : State) : Result := shiftOn .rr (.reg .d) s

/-- `RR E`, CB 1B: R171 -/
def execRrE (s : State) : Result := shiftOn .rr (.reg .e) s

/-- `RR H`, CB 1C: R171 -/
def execRrH (s : State) : Result := shiftOn .rr (.reg .h) s

/-- `RR L`, CB 1D: R171 -/
def execRrL (s : State) : Result := shiftOn .rr (.reg .l) s

/-- `RR (HL)`, CB 1E: R172 -/
def execRrAtHL (s : State) : Result := shiftOn .rr .atHl s

/-- `RR A`, CB 1F: R171 -/
def execRrA (s : State) : Result := shiftOn .rr (.reg .a) s

/-- `SLA B`, CB 20: R173 -/
def execSlaB (s : State) : Result := shiftOn .sla (.reg .b) s

/-- `SLA C`, CB 21: R173 -/
def execSlaC (s : State) : Result := shiftOn .sla (.reg .c) s

/-- `SLA D`, CB 22: R173 -/
def execSlaD (s : State) : Result := shiftOn .sla (.reg .d) s

/-- `SLA E`, CB 23: R173 -/
def execSlaE (s : State) : Result := shiftOn .sla (.reg .e) s

/-- `SLA H`, CB 24: R173 -/
def execSlaH (s : State) : Result := shiftOn .sla (.reg .h) s

/-- `SLA L`, CB 25: R173 -/
def execSlaL (s : State) : Result := shiftOn .sla (.reg .l) s

/-- `SLA (HL)`, CB 26: R174 -/
def execSlaAtHL (s : State) : Result := shiftOn .sla .atHl s

/-- `SLA A`, CB 27: R173 -/
def execSlaA (s : State) : Result := shiftOn .sla (.reg .a) s

/-- `SRA B`, CB 28: R175 -/
def execSraB (s : State) : Result := shiftOn .sra (.reg .b) s

/-- `SRA C`, CB 29: R175 -/
def execSraC (s : State) : Result := shiftOn .sra (.reg .c) s

/-- `SRA D`, CB 2A: R175 -/
def execSraD (s : State) : Result := shiftOn .sra (.reg .d) s

/-- `SRA E`, CB 2B: R175 -/
def execSraE (s : State) : Result := shiftOn .sra (.reg .e) s

/-- `SRA H`, CB 2C: R175 -/
def execSraH (s : State) : Result := shiftOn .sra (.reg .h) s

/-- `SRA L`, CB 2D: R175 -/
def execSraL (s : State) : Result := shiftOn .sra (.reg .l) s

/-- `SRA (HL)`, CB 2E: R176 -/
def execSraAtHL (s : State) : Result := shiftOn .sra .atHl s

/-- `SRA A`, CB 2F: R175 -/
def execSraA (s : State) : Result := shiftOn .sra (.reg .a) s

/-- `SWAP B`, CB 30: R177 -/
def execSwapB (s : State) : Result := shiftOn .swap (.reg .b) s

/-- `SWAP C`, CB 31: R177 -/
def execSwapC (s : State) : Result := shiftOn .swap (.reg .c) s

/-- `SWAP D`, CB 32: R177 -/
def execSwapD (s : State) : Result := shiftOn .swap (.reg .d) s

/-- `SWAP E`, CB 33: R177 -/
def execSwapE (s : State) : Result := shiftOn .swap (.reg .e) s

/-- `SWAP H`, CB 34: R177 -/
def execSwapH (s : State) : Result := shiftOn .swap (.reg .h) s

/-- `SWAP L`, CB 35: R177 -/
def execSwapL (s : State) : Result := shiftOn .swap (.reg .l) s

/-- `SWAP (HL)`, CB 36: R178 -/
def execSwapAtHL (s : State) : Result := shiftOn .swap .atHl s

/-- `SWAP A`, CB 37: R177 -/
def execSwapA (s : State) : Result := shiftOn .swap (.reg .a) s

/-- `SRL B`, CB 38: R179 -/
def execSrlB (s : State) : Result := shiftOn .srl (.reg .b) s

/-- `SRL C`, CB 39: R179 -/
def execSrlC (s : State) : Result := shiftOn .srl (.reg .c) s

/-- `SRL D`, CB 3A: R179 -/
def execSrlD (s : State) : Result := shiftOn .srl (.reg .d) s

/-- `SRL E`, CB 3B: R179 -/
def execSrlE (s : State) : Result := shiftOn .srl (.reg .e) s

/-- `SRL H`, CB 3C: R179 -/
def execSrlH (s : State) : Result := shiftOn .srl (.reg .h) s

/-- `SRL L`, CB 3D: R179 -/
def execSrlL (s : State) : Result := shiftOn .srl (.reg .l) s

/-- `SRL (HL)`, CB 3E: R180 -/
def execSrlAtHL (s : State) : Result := shiftOn .srl .atHl s

/-- `SRL A`, CB 3F: R179 -/
def execSrlA (s : State) : Result := shiftOn .srl (.reg .a) s

end Sys2Proof.Machine
end

