-- ==== Sys2Proof/Machine/Prefix.lean ====
section
/-! DEFINITION. The prefix byte 0xCB as an entry of the primary table (R258): one more byte is fetched and the CB-table
entry it selects is run, read by its fields (R93). `step` runs the pair of bytes as one instruction of the CB table
(R34, decision D9); this is the same effect written as the dispatcher's fetch-extended state. -/

namespace Sys2Proof.Machine

/-- The CB table by its fields `xx yyy rrr` (R93), run on a state whose PC is past the table byte. -/
def cbTableRun (op : Byte) (s : State) : Result :=
  let y := op.toNat / 8 % 8
  let o := Operand8.ofCode (op.toNat % 8)
  match op.toNat / 64 with
  | 0 => shiftOn (ShiftOp.ofCode y) o s
  | 1 => testBit (octet y) o s
  | 2 => resetBit (octet y) o s
  | _ => setBit (octet y) o s

/-- `PREFIX CB`, CB: R258. -/
def execPrefixCb (s : State) : Result :=
  let n := fetch8 s
  cbTableRun n.1 n.2

end Sys2Proof.Machine
end

