-- ==== Sys2Proof/Machine/System.lean ====
section
/-! DEFINITION. NOP, HALT, STOP, EI, DI and the eleven reserved bytes (spec/46_misc_system.md). -/

namespace Sys2Proof.Machine

/-- No effect beyond the opcode fetch (R255, R263). -/
def noOperation (s : State) : Result := .next s

/-- `STOP`, 10: R257, under the policy the state carries. -/
def execStop (s : State) : Result :=
  match s.cfg.stopPolicy with
  | .refuse => .refused .stopNotSpecified
  | .nop1 => .next s
  | .nop2 => .next (fetch8 s).2
  | .halt => .next (s.setHalted true)

/-- `NOP`, 00: R255 -/
def execNop (s : State) : Result := noOperation s

/-- `HALT`, 76: R256 -/
def execHalt (s : State) : Result := .next (s.setHalted true)

/-- `RESERVED_D3`, D3: R263 -/
def execReservedD3 (s : State) : Result := noOperation s

/-- `RESERVED_DB`, DB: R263 -/
def execReservedDB (s : State) : Result := noOperation s

/-- `RESERVED_DD`, DD: R263 -/
def execReservedDD (s : State) : Result := noOperation s

/-- `RESERVED_E3`, E3: R263 -/
def execReservedE3 (s : State) : Result := noOperation s

/-- `RESERVED_E4`, E4: R263 -/
def execReservedE4 (s : State) : Result := noOperation s

/-- `RESERVED_EB`, EB: R263 -/
def execReservedEB (s : State) : Result := noOperation s

/-- `RESERVED_EC`, EC: R263 -/
def execReservedEC (s : State) : Result := noOperation s

/-- `RESERVED_ED`, ED: R263 -/
def execReservedED (s : State) : Result := noOperation s

/-- `DI`, F3: R260 -/
def execDi (s : State) : Result := .next (s.setIme false)

/-- `RESERVED_F4`, F4: R263 -/
def execReservedF4 (s : State) : Result := noOperation s

/-- `EI`, FB: R259 -/
def execEi (s : State) : Result := .next (s.setIme true)

/-- `RESERVED_FC`, FC: R263 -/
def execReservedFC (s : State) : Result := noOperation s

/-- `RESERVED_FD`, FD: R263 -/
def execReservedFD (s : State) : Result := noOperation s

end Sys2Proof.Machine
end

