-- ==== Sys2Proof/Machine/Fetch.lean ====
section
/-! DEFINITION. Fetching an instruction (R81, R82, R83): the opcode byte, the CB-table byte if the first is 0xCB, then
the immediate bytes, one at a time in ascending address order; no byte beyond the instruction's own is read (R62). -/

namespace Sys2Proof.Machine

/-- The instruction at PC, and the state after its bytes have been fetched: PC is past them, their reads are on the
bus (R27, R58, R60). -/
def fetchInstr (s : State) : Instr × State :=
  let op := fetch8 s
  match primaryEntry op.1 with
  | .plain i => (i, op.2)
  | .imm8 k => let n := fetch8 op.2; (k n.1, n.2)
  | .imm16 k => let nn := fetch16 op.2; (k nn.1, nn.2)
  | .cbTable => let n := fetch8 op.2; (cbInstr n.1, n.2)

/-- The outputs at the start of a step: no transaction has happened yet (R60). -/
def State.clearBus (s : State) : State := { s with bus := [] }

/-- The bytes written from `addr` up, the first at the lowest address, outside any step: the host placing code. -/
def placeBytes (addr : Word) (bytes : List Byte) (s : State) : State :=
  match bytes with
  | [] => s
  | v :: rest => placeBytes (addr + 1) rest { s with mem := Memory.write s.mem addr.toNat v }

end Sys2Proof.Machine
end

