-- ==== Sys2Proof/Machine/Step.lean ====
section
/-! DEFINITION. One step (R81): while halted nothing happens, else one whole instruction is fetched and run. -/

namespace Sys2Proof.Machine

/-- The idle step of a halted block: no bus transaction, no change of state; it reports its cycles (R81, R313,
decision D10). -/
def idle (s : State) : State := { s.clearBus with cycles := cycleCost s.cfg .idle }

/-- The cycle count put on the output of a step that completed (R312). -/
def report (cycles : Nat) (r : Result) : Result :=
  match r with
  | .next t => .next { t with cycles := cycles }
  | .fault x => .fault x
  | .refused x => .refused x

/-- One step (R81). -/
def step (s : State) : Host.Outcome State Fault Refusal :=
  if s.halted then .next (idle s)
  else
    let fetched := fetchInstr s.clearBus
    report (instrCycles fetched.1 fetched.2) (exec fetched.1 fetched.2)

/-- `s` with the table word `w` of `nbits` bits stored where the next step fetches, every byte after it up to the
longest instruction zero, the flat memory attached, and the block awake so that it fetches (R31, R51). It stands for the load of a program image,
which is the driver's (R303; log entry 7). -/
def State.withFetchWord (s : State) (nbits w : Nat) : State :=
  placeBytes s.pc ((tableWordBytes nbits w ++ [0#8, 0#8]).take 3) { s with halted := false, attached := .flat }

end Sys2Proof.Machine
end

