-- ==== Sys2Proof/Machine/HostActions.lean ====
section
/-! DEFINITION. What the outside world can do to the block between two steps (R8, R275, R276): Wake (R278), interrupt
entry (R280) and Reset (R300). -/

namespace Sys2Proof.Machine

/-- The host actions besides Step. -/
inductive HostAction where
  | wake
  | intEntry (v : IntVector)
  | reset (image : Memory)
deriving DecidableEq, Repr

/-- The state after a host action; none where the action is not allowed (`IntEntry` with `ime` = 0, R280). -/
def hostAction (x : HostAction) (s : State) : Option State :=
  match x with
  | .wake => some (Sys2Proof.Machine.wake s)
  | .intEntry v => Sys2Proof.Machine.intEntry v s
  | .reset image => some (hostReset image s)

end Sys2Proof.Machine
end

