-- ==== Sys2Proof/Safety.lean ====
section
/-! DEFINITION. What counts as a legal state and a safe run, in the terms the statements use. -/

namespace Sys2Proof.Machine

/-- The legal states: the low nibble of F is 0 (R25) and the memory is in canonical form. -/
abbrev State.Inv (s : State) : Prop := s.f &&& 0x0F#8 = 0#8 ∧ Memory.wf s.mem = true

/-- Both states have the same parameters: the configuration is the same and the bus is the one of `s` after some more
reads (R7, R51). -/
abbrev State.SameParams (s t : State) : Prop := t.cfg = s.cfg ∧ ∃ n, t.attached = s.attached.skip n

/-- A memory image a Reset may attach: one in canonical form. -/
abbrev HostAction.imageOk (x : HostAction) : Prop :=
  match x with
  | .reset image => Memory.wf image = true
  | .wake => True
  | .intEntry _ => True

/-- What the driver and the interrupt collaborator can make of a state: steps and host actions in any order, at any
time between steps (R8, R275, U12). -/
inductive Reaches : State → State → Prop where
  | refl (s : State) : Reaches s s
  | step {s t u : State} : Reaches s t → step t = .next u → Reaches s u
  | action {s t u : State} (x : HostAction) : Reaches s t → x.imageOk → hostAction x t = some u → Reaches s u

/-- `k` steps from `s` all answer a next state. -/
def RunsSafely (k : Nat) (s : State) : Prop := ∃ t, Host.Core.run Sys2Proof.core k s = .next t

end Sys2Proof.Machine
end

