-- ==== Sys2Proof/Certificates/Slice0/Obligations.lean ====
section
/-! DEFINITION. The statements for the provers. Opcode numbers in them are the spec's (R80: general knowledge, decision
D1). A statement about an instruction speaks of `exec`, that is of the effect after all bytes of the instruction have
been fetched (R11); `StepRunsDecodedInstruction` connects it with a step. -/

namespace Sys2Proof.Claims

open Sys2Proof.Machine

/-- F.Z, F.N, F.H and F.C by their bits (R24). -/
def fz (s : State) : Bool := s.f.getLsbD 7

def fn (s : State) : Bool := s.f.getLsbD 6

def fh (s : State) : Bool := s.f.getLsbD 5

def fc (s : State) : Bool := s.f.getLsbD 4

/-- The byte of F with the given flags and a zero low nibble (R24, R25). -/
def fOf (z n h c : Bool) : Byte := BitVec.ofNat 8 (128 * z.toNat + 64 * n.toNat + 32 * h.toNat + 16 * c.toNat)

/-- The register a code names (R86), by its field. -/
def regByte (s : State) : Reg8 → Byte
  | .b => s.b
  | .c => s.c
  | .d => s.d
  | .e => s.e
  | .h => s.h
  | .l => s.l
  | .a => s.a

/-- `s` with the register a code names set to `v` (R86), by its field. -/
def withReg (s : State) (r : Reg8) (v : Byte) : State :=
  match r with
  | .b => { s with b := v }
  | .c => { s with c := v }
  | .d => { s with d := v }
  | .e => { s with e := v }
  | .h => { s with h := v }
  | .l => { s with l := v }
  | .a => { s with a := v }

/-- The pair a code names (R87, R22), by its fields. -/
def pairWord (s : State) : Pair → Word
  | .bc => wordOf s.b s.c
  | .de => wordOf s.d s.e
  | .hl => wordOf s.h s.l
  | .sp => s.sp

/-- `s` with the pair a code names set to `v` (R87, R22), by its fields. -/
def withPair (s : State) (p : Pair) (v : Word) : State :=
  match p with
  | .bc => { s with b := hiByte v, c := loByte v }
  | .de => { s with d := hiByte v, e := loByte v }
  | .hl => { s with h := hiByte v, l := loByte v }
  | .sp => { s with sp := v }

/-- `s` after one read of `addr`: the transaction is on the bus, which has answered once more (R52, R60). -/
def didRead (s : State) (addr : Word) : State :=
  { s with attached := s.attached.skip 1, bus := s.bus ++ [.read addr (s.byteAt addr)] }

/-- What an `r8` operand holds (R86). -/
def operandByte (o : Operand8) (s : State) : Byte :=
  match o with
  | .reg r => regByte s r
  | .atHl => s.byteAt s.hl

/-- `s` after an `r8` operand has been taken: the `(HL)` form makes one read (R86, R62). -/
def tookOperand (o : Operand8) (s : State) : State :=
  match o with
  | .reg _ => s
  | .atHl => didRead s s.hl

/-- `t` is `s` after the one byte `v` has been written to `addr`: with the flat memory behind the bus that byte of it is
`v`, every other byte of it is as before, and nothing but it and the bus differs (R51, R53). -/
def StoredByte (s t : State) (addr : Word) (v : Byte) : Prop :=
  t = { s with mem := t.mem, bus := s.bus ++ [.write addr v] } ∧
  ∀ x : Word, t.ram x = if x = addr ∧ s.attached = .flat then v else s.ram x

/-- `t` is `s` after the operand `o` has been rewritten to `v` and F to `f`: a register, or one read and one write at
HL, every other byte of the flat memory as before (R60, R62, R86). -/
def Rewritten (o : Operand8) (v f : Byte) (s t : State) : Prop :=
  match o with
  | .reg r => t = { withReg s r v with f := f }
  | .atHl => StoredByte { didRead s s.hl with f := f } t s.hl v

/-- `t` is `s` after the word `v` has been written to `addr`: the low byte there, the high byte at the next address, in
that order, every other byte of the flat memory as before (R57). -/
def StoredWord (s t : State) (addr v : Word) : Prop :=
  t = { s with mem := t.mem, bus := s.bus ++ [.write addr (loByte v), .write (addr + 1) (hiByte v)] } ∧
  ∀ x : Word, t.ram x =
    if s.attached = .flat then if x = addr then loByte v else if x = addr + 1 then hiByte v else s.ram x
    else s.ram x

/-- `t` is `s` after the word `v` has been pushed and PC set to `target`: the low byte at SP - 2, the high byte at
SP - 1, every other byte of the flat memory as before (R225). -/
def PushedAndWent (s t : State) (v target : Word) : Prop :=
  t = { s with sp := s.sp - 2, pc := target, mem := t.mem,
               bus := s.bus ++ [.write (s.sp - 2) (loByte v), .write (s.sp - 1) (hiByte v)] } ∧
  ∀ x : Word, t.ram x =
    if s.attached = .flat then if x = s.sp - 2 then loByte v else if x = s.sp - 1 then hiByte v else s.ram x
    else s.ram x

/-- The word on top of the stack, its low byte read first (R226). -/
def stackTop (s : State) : Word := wordOf (s.byteAfter 1 (s.sp + 1)) (s.byteAt s.sp)

/-- `s` after the two reads of a pop and SP + 2 (R226). -/
def popped (s : State) : State :=
  { s with
    sp := s.sp + 2, attached := s.attached.skip 2
    bus := s.bus ++ [.read s.sp (s.byteAt s.sp), .read (s.sp + 1) (s.byteAfter 1 (s.sp + 1))] }

/-- The reads of the first `n` bytes at PC (R58, R60). -/
def fetches (s : State) (n : Nat) : List BusEvent :=
  [BusEvent.read s.pc (s.byteAt s.pc), .read (s.pc + 1) (s.byteAfter 1 (s.pc + 1)),
   .read (s.pc + 2) (s.byteAfter 2 (s.pc + 2))].take n

/-- The condition of a code (R90). -/
def condHolds (cc : Cond) (s : State) : Bool :=
  match cc with
  | .nz => !fz s
  | .z => fz s
  | .nc => !fc s
  | .c => fc s

/-- `add8` of R110 applied to A: the accumulator and F after the addition of `x` and `cin`. -/
def added (s : State) (x : Byte) (cin : Nat) : State :=
  { s with
    a := BitVec.ofNat 8 (s.a.toNat + x.toNat + cin)
    f := fOf (decide ((s.a.toNat + x.toNat + cin) % 256 = 0)) false
      (decide (s.a.toNat % 16 + x.toNat % 16 + cin > 15)) (decide (s.a.toNat + x.toNat + cin > 255)) }

/-- F after `sub8` of R110 takes `x` and `cin` from A. -/
def subFlags (s : State) (x : Byte) (cin : Nat) : Byte :=
  fOf (decide (((s.a.toNat : Int) - x.toNat - cin) % 256 = 0)) true
    (decide (s.a.toNat % 16 < x.toNat % 16 + cin)) (decide (s.a.toNat < x.toNat + cin))

/-- A and F after `sub8` of R110. -/
def subtracted (s : State) (x : Byte) (cin : Nat) : State :=
  { s with a := BitVec.ofInt 8 ((s.a.toNat : Int) - x.toNat - cin), f := subFlags s x cin }

/-- A and F after a logical operation with the result `v` and the fixed H (R123 to R131). -/
def logicDone (s : State) (v : Byte) (h : Bool) : State :=
  { s with a := v, f := fOf (decide (v = 0#8)) false h false }

/-- The result and carry of the eight one-bit operations as numbers (R160). -/
def shiftSpec (op : ShiftOp) (v cin : Nat) : Nat × Nat :=
  match op with
  | .rlc => ((2 * v + v / 128) % 256, v / 128)
  | .rrc => (v / 2 + 128 * (v % 2), v % 2)
  | .rl => ((2 * v + cin) % 256, v / 128)
  | .rr => (v / 2 + 128 * cin, v % 2)
  | .sla => (2 * v % 256, v / 128)
  | .sra => (v / 2 + 128 * (v / 128), v % 2)
  | .swap => (16 * (v % 16) + v / 16, 0)
  | .srl => (v / 2, v % 2)

/-- The cost of an entry of the primary table, row by row of R313 (general knowledge, decision D17, log entry 6). -/
def primaryCost (op : Nat) (taken : Bool) : Nat :=
  if op ∈ [0x20, 0x28, 0x30, 0x38] then if taken then 12 else 8
  else if op ∈ [0xC2, 0xCA, 0xD2, 0xDA] then if taken then 16 else 12
  else if op ∈ [0xC4, 0xCC, 0xD4, 0xDC] then if taken then 24 else 12
  else if op ∈ [0xC0, 0xC8, 0xD0, 0xD8] then if taken then 20 else 8
  else if op = 0xCD then 24
  else if op = 0x08 then 20
  else if op ∈ [0xC5, 0xD5, 0xE5, 0xF5, 0xC3, 0xC9, 0xD9, 0xE8, 0xEA, 0xFA] ∨ (0xC0 ≤ op ∧ op % 8 = 7) then 16
  else if op ∈ [0x01, 0x11, 0x21, 0x31, 0x34, 0x35, 0x36, 0xE0, 0xF0, 0xC1, 0xD1, 0xE1, 0xF1, 0xF8, 0x18] then 12
  else if op ∈ [0x02, 0x12, 0x22, 0x32, 0x0A, 0x1A, 0x2A, 0x3A, 0xE2, 0xF2, 0xF9] ∨
    ((op < 0x40 ∨ 0x80 ≤ op) ∧ op % 8 = 6) ∨ (0x40 ≤ op ∧ op < 0x80 ∧ op ≠ 0x76 ∧ (op % 8 = 6 ∨ op / 8 = 14)) ∨
    (op < 0x40 ∧ (op % 16 = 3 ∨ op % 16 = 9 ∨ op % 16 = 11)) then 8
  else 4

/-- The cost of an entry of the CB table, prefix fetch included, row by row of R313. -/
def cbCost (op : Nat) : Nat :=
  if op % 8 ≠ 6 then 8 else if 0x40 ≤ op ∧ op < 0x80 then 12 else 16

/-- The cost a configuration gives: the first one it lists for the key, at least 1, else the default (R7, R312). -/
def costOr (s : State) (key : CycleKey) (default : Nat) : Nat :=
  match s.cfg.cycles.find? (fun e => e.1 = key) with
  | some e => max 1 e.2
  | none => default

/-- Whether the instruction whose opcode is at PC takes its branch; what is no conditional branch counts as taken. -/
def takenAtPc (s : State) : Bool :=
  let op := (s.byteAt s.pc).toNat
  if op ∈ [0x20, 0x28, 0x30, 0x38] ∨ (0xC0 ≤ op ∧ op < 0xE0 ∧ (op % 8 = 0 ∨ op % 8 = 2 ∨ op % 8 = 4))
  then condHolds (Cond.ofCode (op / 8 % 4)) s else true

/-- The cycles a step from `s` reports (R81, R312, R313). -/
def stepCost (s : State) : Nat :=
  let op := s.byteAt s.pc
  let op2 := s.byteAfter 1 (s.pc + 1)
  if s.halted then costOr s .idle 4
  else if op = 0xCB#8 then costOr s (.entry .cb op2 true) (cbCost op2.toNat)
  else costOr s (.entry .primary op (takenAtPc s)) (primaryCost op.toNat (takenAtPc s))

/-- The byte that writes the two decimal digits of `m` (R12, packed BCD). -/
def bcd (m : Nat) : Byte := BitVec.ofNat 8 (16 * (m / 10) + m % 10)

/-- `i` followed by DAA leaves the two decimal digits of `m` in A and `carry` in F.C. -/
def DecimalAfter (i : Instr) (s : State) (m : Nat) (carry : Bool) : Prop :=
  ∃ t u, exec i s = .next t ∧ exec .daa t = .next u ∧ u.a = bcd m ∧ fc u = carry

/-- The first byte of an encoding, and the table byte behind a prefix. -/
def opcodeIn (i : Instr) (primary cb : Nat → Bool) : Bool :=
  match encode i with
  | [] => false
  | [op] => op == 0xCB#8 || primary op.toNat
  | op :: op2 :: _ => if op = 0xCB#8 then cb op2.toNat else primary op.toNat

/-- The opcodes that write F (R26): the ALU block and its immediates, INC and DEC of a byte, the legacy rotates, DAA,
CPL, SCF, CCF, `ADD HL,rr`, `ADD SP,e8`, `LD HL,SP+e8`, `POP AF`, and the CB table below RES; and the prefix alone. -/
def writesFlags (i : Instr) : Bool :=
  opcodeIn i
    (fun op => (0x80 ≤ op && op < 0xC0) || (0xC0 ≤ op && op % 8 == 6) ||
      (op < 0x40 && (op % 8 == 4 || op % 8 == 5 || op % 8 == 7 || op % 16 == 9)) ||
      op == 0xE8 || op == 0xF8 || op == 0xF1)
    (fun op => op < 0x80)

/-- The opcodes that store to memory (R61, R62, and the store rules): stores of A, of a register and of an immediate,
INC and DEC of `(HL)`, `LD (a16),SP`, PUSH, CALL, RST, and the CB rows on `(HL)` but BIT; and the prefix alone. -/
def storesToMemory (i : Instr) : Bool :=
  opcodeIn i
    (fun op => [0x02, 0x08, 0x12, 0x22, 0x32, 0x34, 0x35, 0x36, 0xE0, 0xE2, 0xEA, 0xCD].contains op ||
      (0x70 ≤ op && op < 0x78 && op != 0x76) || [0xC4, 0xCC, 0xD4, 0xDC, 0xC5, 0xD5, 0xE5, 0xF5].contains op ||
      (0xC0 ≤ op && op % 8 == 7))
    (fun op => op % 8 == 6 && (op < 0x40 || 0x80 ≤ op))

/-- The opcodes that write SP (R28): `LD SP,d16`, `LD SP,HL`, `INC SP`, `DEC SP`, `ADD SP,e8`, PUSH, POP, CALL, RET,
RETI, RST; and the prefix alone. -/
def writesSp (i : Instr) : Bool :=
  opcodeIn i
    (fun op => [0x31, 0x33, 0x3B, 0xE8, 0xF9, 0xC9, 0xD9, 0xCD].contains op ||
      [0xC4, 0xCC, 0xD4, 0xDC, 0xC0, 0xC8, 0xD0, 0xD8].contains op ||
      (0xC0 ≤ op && (op % 16 == 1 || op % 16 == 5)) || (0xC0 ≤ op && op % 8 == 7))
    (fun _ => false)

/-- The opcodes that may move PC beyond their own bytes (R235): JR, JP, CALL, RET, RETI, RST; and STOP, whose length
depends on the policy (R257), and the prefix alone. -/
def transfersControl (i : Instr) : Bool :=
  opcodeIn i
    (fun op => [0x10, 0x18, 0x20, 0x28, 0x30, 0x38, 0xC3, 0xC9, 0xCD, 0xD9, 0xE9].contains op ||
      (0xC0 ≤ op && op < 0xE0 && (op % 8 == 0 || op % 8 == 2 || op % 8 == 4)) || (0xC0 ≤ op && op % 8 == 7))
    (fun _ => false)

end Sys2Proof.Claims

open Sys2Proof Sys2Proof.Machine Sys2Proof.Claims

/-! ## Reset and legal states -/

/-- R36, R300, R303: what Reset leaves, from every state and with every image: every register, F, PC, SP, `ime`, `halted`,
every byte of the flat memory, and the parameters as they were; and the same of the two states after reset, with zero
memory behind the bus, of which `State.resetDefault` has the default parameters of R7. That `ime` and `halted` are 0 is
the spec's decision (D5, D6); that a Reset keeps the parameters is the model's (log entry 25). The outputs (log entry 4)
and the parameters of `State.reset`, which supplies a policy for STOP of its own (log entry 1), are not claimed. -/
def Obligations.ResetStateValues : Prop :=
  (∀ (image : Memory) (s : State),
    let t := hostReset image s
    (∀ r : Reg8, regByte t r = 0#8) ∧ t.f = 0#8 ∧ t.pc = 0x0000#16 ∧ t.sp = 0xFFFE#16 ∧ t.ime = false ∧
    t.halted = false ∧ (∀ x : Word, t.ram x = Memory.read image x.toNat) ∧ t.cfg = s.cfg ∧ t.attached = s.attached) ∧
  (∀ t : State, t = State.reset ∨ t = State.resetDefault →
    (∀ r : Reg8, regByte t r = 0#8) ∧ t.f = 0#8 ∧ t.pc = 0x0000#16 ∧ t.sp = 0xFFFE#16 ∧ t.ime = false ∧
    t.halted = false ∧ t.attached = .flat ∧ ∀ x : Word, t.byteAt x = 0#8) ∧
  State.resetDefault.cfg = ⟨.refuse, .flagsOnly, []⟩

/-- R301: Reset loads PC with 0x0000 and reads no vector; the first transaction of the first step after it is the
fetch at 0x0000, and with the flat memory attached the byte fetched is the one the image holds there. -/
def Obligations.ResetVectorIsAConstant : Prop :=
  ∀ (image : Memory) (s : State),
    (hostReset image s).pc = 0x0000#16 ∧
    (∀ t, step (hostReset image s) = .next t →
      t.bus.head? = some (.read 0x0000#16 ((hostReset image s).byteAt 0x0000#16))) ∧
    (s.attached = .flat → (hostReset image s).byteAt 0x0000#16 = Memory.read image 0)

/-- The two reset states are legal. -/
def Obligations.ResetStateIsLegal : Prop := State.reset.Inv ∧ State.resetDefault.Inv

/-- R25 and the canonical memory: a step from a legal state, and a host action with a canonical image, end in a legal
state with the same parameters; an oracle behind the bus has at most answered further reads. -/
def Obligations.StepKeepsLegalState : Prop :=
  (∀ s t : State, s.Inv → step s = .next t → t.Inv ∧ s.SameParams t) ∧
  (∀ (s t : State) (x : HostAction), s.Inv → x.imageOk → hostAction x s = some t → t.Inv ∧ s.SameParams t)

/-- R25: whatever steps and host actions happen after a legal state, the reset state among them, the low nibble of F is
0, the memory canonical and the parameters the same. -/
def Obligations.ReachableStatesAreLegal : Prop :=
  ∀ s t : State, s.Inv → Reaches s t → t.Inv ∧ s.SameParams t

/-- R51, R68: two memories in canonical form that read the same at every address are the same data. -/
def Obligations.CanonicalMemoryIsUnique : Prop :=
  ∀ m m' : Memory, Memory.wf m = true → Memory.wf m' = true →
    (∀ a : Nat, Memory.read m a = Memory.read m' a) → m = m'

/-! ## The step -/

/-- R81, R82, R83, R27, R58, R60: the bytes at PC decode, exactly their own bytes are fetched in ascending order, PC
moves past them, the instruction is executed on that state, and the cycles of the instruction are reported. What
those cycles are is `StepOutputsAreBounded`. -/
def Obligations.StepRunsDecodedInstruction : Prop :=
  ∀ (s : State) (i : Instr) (rest : List Byte), s.halted = false →
    decode [s.byteAt s.pc, s.byteAfter 1 (s.pc + 1), s.byteAfter 2 (s.pc + 2)] = .ok (i, rest) →
    i.wellFormed = true ∧
    step s =
      (let n := 3 - rest.length
       let s1 := { s with
         pc := s.pc + BitVec.ofNat 16 n
         attached := s.attached.skip n
         bus := fetches s n }
       match exec i s1 with
       | .next t => .next { t with cycles := instrCycles i s1 }
       | .fault x => .fault x
       | .refused x => .refused x)

/-- R81, R31 (decision D10): a step of a halted block makes no bus transaction and changes no state; it reports the
cycles of an idle step, four by default (decision D17). -/
def Obligations.HaltedStepIsIdle : Prop :=
  ∀ s : State, s.halted = true → step s = .next { s with bus := [], cycles := costOr s .idle 4 }

/-- R81: a step has a defined outcome in every state and for every memory content, except the opcode 0x10 fetched under
`STOP_POLICY = refuse`, where it is refused (decision D3). -/
def Obligations.StepOutcomeIsTotal : Prop :=
  ∀ s : State,
    if s.halted = false ∧ s.byteAt s.pc = 0x10#8 ∧ s.cfg.stopPolicy = .refuse
    then step s = .refused .stopNotSpecified
    else ∃ t, step s = .next t

/-- R270: no step, in any state, ends in a fault. -/
def Obligations.StepNeverFaults : Prop := ∀ (s : State) (x : Fault), step s ≠ .fault x

/-- R61, R312, R313: a step that is not idle makes at least one and at most five byte transactions, and every step
reports a positive number of cycles: the one the configuration lists for its entry, else the one of the default table, by
the opcode, the table byte and whether the branch is taken (general knowledge, decision D17, log entry 6), four or
more. -/
def Obligations.StepOutputsAreBounded : Prop :=
  ∀ s t : State, step s = .next t →
    t.bus.length ≤ 5 ∧ (s.halted = false → 1 ≤ t.bus.length) ∧ 1 ≤ t.cycles ∧ t.cycles = stepCost s ∧
    (s.cfg.cycles = [] → 4 ≤ t.cycles)

/-! ## Encoding -/

/-- R85 to R95: every whole instruction, with every operand, comes back from its bytes, whatever bytes follow. -/
def Obligations.DecodeEncodeRoundTrip : Prop :=
  ∀ (i : Instr) (rest : List Byte), i.wellFormed = true → decode (encode i ++ rest) = .ok (i, rest)

/-- R85 to R95: the bytes the decoder takes are the bytes of the instruction it gives: no bit of them is dropped. -/
def Obligations.EncodeDecodeRoundTrip : Prop :=
  ∀ (bytes : List Byte) (i : Instr) (rest : List Byte),
    decode bytes = .ok (i, rest) → encode i ++ rest = bytes

/-- Words written out from the spec: the source's scenarios 1 to 6 (R220, R135, R111, R237, R241, R243, R181), a
reserved byte (R94) and the slot of HALT (R256). -/
def Obligations.SpecWordsDecode : Prop :=
  decode [0x01#8, 0x34#8, 0x12#8] = .ok (.ldBCImm 0x1234#16, []) ∧ decode [0x04#8] = .ok (.incB, []) ∧
  decode [0x80#8] = .ok (.addAB, []) ∧ decode [0x20#8, 0x05#8] = .ok (.jrNZ 0x05#8, []) ∧
  decode [0xCD#8, 0x00#8, 0x40#8] = .ok (.call 0x4000#16, []) ∧ decode [0xC9#8] = .ok (.ret, []) ∧
  decode [0xCB#8, 0x7C#8] = .ok (.bit7H, []) ∧ decode [0xDD#8, 0x12#8] = .ok (.reservedDD, [0x12#8]) ∧
  decode [0x76#8] = .ok (.halt, [])

/-- R85 to R93: the bytes of every instruction that a field pattern gives: an operation, operand, pair, condition, bit
or target code at every value, and the immediate bytes, low byte first; with the single opcodes of the instructions whose effect
another statement gives without its encoding. The opcode numbers are the spec's decision D1 (general knowledge), no
statement of the source; which bytes are reserved is its decision D2. -/
def Obligations.OpcodesFollowTheFieldPatterns : Prop :=
  (∀ (k : Nat) (o : Operand8) (n : Byte), k < 8 →
    encode (aluInstr (AluOp.ofCode k) o) = [BitVec.ofNat 8 (0x80 + 8 * k + o.code)] ∧
    encode (aluImmInstr (AluOp.ofCode k) n) = [BitVec.ofNat 8 (0xC6 + 8 * k), n] ∧
    encode (shiftInstr (ShiftOp.ofCode k) o) = [0xCB#8, BitVec.ofNat 8 (8 * k + o.code)]) ∧
  (∀ (o : Operand8) (r : Reg8) (n : Byte),
    encode (incInstr o) = [BitVec.ofNat 8 (0x04 + 8 * o.code)] ∧
    encode (decInstr o) = [BitVec.ofNat 8 (0x05 + 8 * o.code)] ∧
    encode (ldImmInstr o n) = [BitVec.ofNat 8 (0x06 + 8 * o.code), n] ∧
    encode (ldInstr (.reg r) o) = [BitVec.ofNat 8 (0x40 + 8 * (Operand8.reg r).code + o.code)] ∧
    encode (ldInstr .atHl (.reg r)) = [BitVec.ofNat 8 (0x70 + (Operand8.reg r).code)]) ∧
  (∀ (k : Nat) (n : Byte) (nn : Word), k < 4 →
    encode (ldPairInstr (Pair.ofCode k) nn) = [BitVec.ofNat 8 (0x01 + 16 * k), loByte nn, hiByte nn] ∧
    encode (incPairInstr (Pair.ofCode k)) = [BitVec.ofNat 8 (0x03 + 16 * k)] ∧
    encode (decPairInstr (Pair.ofCode k)) = [BitVec.ofNat 8 (0x0B + 16 * k)] ∧
    encode (addHlInstr (Pair.ofCode k)) = [BitVec.ofNat 8 (0x09 + 16 * k)] ∧
    encode (storeAInstr (MemPair.ofCode k)) = [BitVec.ofNat 8 (0x02 + 16 * k)] ∧
    encode (loadAInstr (MemPair.ofCode k)) = [BitVec.ofNat 8 (0x0A + 16 * k)] ∧
    encode (popInstr (StackPair.ofCode k)) = [BitVec.ofNat 8 (0xC1 + 16 * k)] ∧
    encode (pushInstr (StackPair.ofCode k)) = [BitVec.ofNat 8 (0xC5 + 16 * k)] ∧
    encode (jrInstr (Cond.ofCode k) n) = [BitVec.ofNat 8 (0x20 + 8 * k), n] ∧
    encode (jpInstr (Cond.ofCode k) nn) = [BitVec.ofNat 8 (0xC2 + 8 * k), loByte nn, hiByte nn] ∧
    encode (callInstr (Cond.ofCode k) nn) = [BitVec.ofNat 8 (0xC4 + 8 * k), loByte nn, hiByte nn] ∧
    encode (retInstr (Cond.ofCode k)) = [BitVec.ofNat 8 (0xC0 + 8 * k)]) ∧
  (∀ (i : Fin 8) (o : Operand8),
    encode (rstInstr i) = [BitVec.ofNat 8 (0xC7 + 8 * i.val)] ∧
    encode (bitInstr i o) = [0xCB#8, BitVec.ofNat 8 (0x40 + 8 * i.val + o.code)] ∧
    encode (resInstr i o) = [0xCB#8, BitVec.ofNat 8 (0x80 + 8 * i.val + o.code)] ∧
    encode (setInstr i o) = [0xCB#8, BitVec.ofNat 8 (0xC0 + 8 * i.val + o.code)]) ∧
  (∀ (n : Byte) (nn : Word),
    encode (.jr n) = [0x18#8, n] ∧ encode (.addSPImm n) = [0xE8#8, n] ∧ encode (.ldHLSPImm n) = [0xF8#8, n] ∧
    encode (.jp nn) = [0xC3#8, loByte nn, hiByte nn] ∧ encode (.call nn) = [0xCD#8, loByte nn, hiByte nn] ∧
    encode .rlca = [0x07#8] ∧ encode .rrca = [0x0F#8] ∧ encode .rla = [0x17#8] ∧ encode .rra = [0x1F#8] ∧
    encode .halt = [0x76#8] ∧ encode .ei = [0xFB#8] ∧ encode .di = [0xF3#8] ∧ encode .nop = [0x00#8] ∧
    encode .ret = [0xC9#8] ∧ encode .reti = [0xD9#8] ∧ encode .prefixCb = [0xCB#8] ∧
    encode .reservedD3 = [0xD3#8] ∧ encode .reservedDB = [0xDB#8] ∧ encode .reservedDD = [0xDD#8] ∧
    encode .reservedE3 = [0xE3#8] ∧ encode .reservedE4 = [0xE4#8] ∧ encode .reservedEB = [0xEB#8] ∧
    encode .reservedEC = [0xEC#8] ∧ encode .reservedED = [0xED#8] ∧ encode .reservedF4 = [0xF4#8] ∧
    encode .reservedFC = [0xFC#8] ∧ encode .reservedFD = [0xFD#8])

/-- R96, R85: the number of bytes the decoder takes is the one the two lists of R96 give the first byte. -/
def Obligations.LengthFollowsFirstByte : Prop :=
  ∀ (bytes : List Byte) (i : Instr) (rest : List Byte),
    decode bytes = .ok (i, rest) → i.wellFormed = true →
    bytes.length = rest.length +
      (let op := (bytes.headD 0#8).toNat
       if op ∈ [0x01, 0x11, 0x21, 0x31, 0x08, 0xC2, 0xC3, 0xC4, 0xCA, 0xCC, 0xCD, 0xD2, 0xD4, 0xDA, 0xDC, 0xEA, 0xFA]
       then 3
       else if op ∈ [0x06, 0x0E, 0x16, 0x1E, 0x26, 0x2E, 0x36, 0x3E, 0x18, 0x20, 0x28, 0x30, 0x38] ∨
          op ∈ [0xC6, 0xCE, 0xD6, 0xDE, 0xE6, 0xEE, 0xF6, 0xFE, 0xE0, 0xF0, 0xE8, 0xF8, 0xCB]
       then 2
       else 1)

/-- R258, R93 (decision D9): the prefix fetches one byte and does what the instruction of the CB table that the byte
selects does; it always completes. Constructor: prefixCb. -/
def Obligations.PrefixRunsCbTable : Prop :=
  ∀ s : State,
    exec .prefixCb s = exec (cbInstr (s.byteAt s.pc)) { didRead s s.pc with pc := s.pc + 1 } ∧
    ∃ t, exec .prefixCb s = .next t

/-! ## Registers, flags and words -/

/-- R22, R21, R25, R87: the register and pair accessors by their fields: the pairs are views of the cells, high byte
first, a write of a pair splits. That AF's low nibble reads 0 in every state is read from R25 and U8 (log entry 24). -/
def Obligations.PairViewsShareTheCells : Prop :=
  ∀ (s : State) (v : Word) (w : Byte),
    (s.af.toNat = 256 * s.a.toNat + 16 * (s.f.toNat / 16) ∧ s.bc.toNat = 256 * s.b.toNat + s.c.toNat ∧
     s.de.toNat = 256 * s.d.toNat + s.e.toNat ∧ s.hl.toNat = 256 * s.h.toNat + s.l.toNat) ∧
    s.setAf v = { s with a := BitVec.ofNat 8 (v.toNat / 256), f := BitVec.ofNat 8 (16 * (v.toNat / 16 % 16)) } ∧
    s.setBc v = { s with b := BitVec.ofNat 8 (v.toNat / 256), c := BitVec.ofNat 8 v.toNat } ∧
    s.setDe v = { s with d := BitVec.ofNat 8 (v.toNat / 256), e := BitVec.ofNat 8 v.toNat } ∧
    s.setHl v = { s with h := BitVec.ofNat 8 (v.toNat / 256), l := BitVec.ofNat 8 v.toNat } ∧
    (∀ p : Pair, s.pair p = pairWord s p ∧ s.setPair p v = withPair s p v) ∧
    (∀ r : Reg8, s.reg r = regByte s r ∧ s.setReg r w = withReg s r w) ∧
    (s.stackPair .bc = s.bc ∧ s.stackPair .de = s.de ∧ s.stackPair .hl = s.hl ∧ s.stackPair .af = s.af) ∧
    (s.setStackPair .bc v = s.setBc v ∧ s.setStackPair .de v = s.setDe v ∧ s.setStackPair .hl v = s.setHl v ∧
      s.setStackPair .af v = s.setAf v)

/-- R24: each flag is the bit of F at its fixed position; writing the four flags sets each to its own argument, clears
the low nibble and changes nothing else. -/
def Obligations.FlagsAreFixedBitsOfF : Prop :=
  ∀ (s : State) (fl : Flags),
    s.flags = ⟨fz s, fn s, fh s, fc s⟩ ∧
    s.setFlags fl = { s with f := fOf fl.z fl.n fl.h fl.c } ∧
    fz (s.setFlags fl) = fl.z ∧ fn (s.setFlags fl) = fl.n ∧ fh (s.setFlags fl) = fl.h ∧ fc (s.setFlags fl) = fl.c ∧
    (s.setFlags fl).f &&& 0x0F#8 = 0#8

/-- R51 to R53, R57, R73: the bus. A read answers what the flat memory holds, or what an oracle answers next (after its
list, a free value: log entry 30), and is one transaction; a write is one transaction and stores in the flat memory alone.
Words are little-endian, the second byte at the next address modulo 65536 (decision D7), the lower address first
(decision D8); with the flat memory attached a byte or word written reads back. -/
def Obligations.WordsAreLittleEndian : Prop :=
  ∀ (s : State) (addr v : Word) (w : Byte),
    (s.attached = .flat → ∀ k : Nat, s.byteAfter k addr = s.ram addr ∧ s.attached.skip k = .flat) ∧
    (∀ (answers : List Byte) (asked : Nat), s.attached = .oracle answers asked → ∀ k : Nat,
      s.byteAfter k addr = (answers[asked + k]?).getD (freeAnswer (asked + k)) ∧
      s.attached.skip k = .oracle answers (asked + k)) ∧
    s.byteAt addr = s.byteAfter 0 addr ∧
    memRead8 addr s = (s.byteAt addr, didRead s addr) ∧
    StoredByte s (memWrite8 addr w s) addr w ∧
    memRead16 addr s = (wordOf (s.byteAfter 1 (addr + 1)) (s.byteAt addr),
      { s with
        attached := s.attached.skip 2
        bus := s.bus ++ [.read addr (s.byteAt addr), .read (addr + 1) (s.byteAfter 1 (addr + 1))] }) ∧
    StoredWord s (memWrite16 addr v s) addr v ∧
    (s.attached = .flat →
      (memRead8 addr (memWrite8 addr w s)).1 = w ∧ (memRead16 addr (memWrite16 addr v s)).1 = v)

/-! ## 8-bit ALU -/

/-- R111 to R116: ADD and ADC on a register, on `(HL)` and on an immediate: A, the four flags, the data read of the
`(HL)` form, and nothing else. Constructors: addAB addAC addAD addAE addAH addAL addAAtHL addAA adcAB adcAC adcAD
adcAE adcAH adcAL adcAAtHL adcAA addAImm adcAImm. -/
def Obligations.AddAdcResult : Prop :=
  ∀ (s : State) (o : Operand8) (n : Byte),
    (exec (aluInstr .add o) s = .next (added (tookOperand o s) (operandByte o s) 0) ∧
     exec (aluImmInstr .add n) s = .next (added s n 0)) ∧
    (exec (aluInstr .adc o) s =
       .next (added (tookOperand o s) (operandByte o s) (fc s).toNat) ∧
     exec (aluImmInstr .adc n) s = .next (added s n (fc s).toNat))

/-- R117 to R122: SUB and SBC, in the same three forms. Constructors: subB subC subD subE subH subL subAtHL subA
sbcAB sbcAC sbcAD sbcAE sbcAH sbcAL sbcAAtHL sbcAA subImm sbcAImm. -/
def Obligations.SubSbcResult : Prop :=
  ∀ (s : State) (o : Operand8) (n : Byte),
    (exec (aluInstr .sub o) s = .next (subtracted (tookOperand o s) (operandByte o s) 0) ∧
     exec (aluImmInstr .sub n) s = .next (subtracted s n 0)) ∧
    (exec (aluInstr .sbc o) s =
       .next (subtracted (tookOperand o s) (operandByte o s) (fc s).toNat) ∧
     exec (aluImmInstr .sbc n) s = .next (subtracted s n (fc s).toNat))

/-- R123 to R131: AND, XOR and OR, in the same three forms: H = 1 for AND, 0 for the others; N = 0, C = 0.
Constructors: andB andC andD andE andH andL andAtHL andA xorB xorC xorD xorE xorH xorL xorAtHL xorA orB orC orD orE
orH orL orAtHL orA andImm xorImm orImm. -/
def Obligations.LogicResult : Prop :=
  ∀ (s : State) (o : Operand8) (n : Byte),
    (exec (aluInstr .and o) s =
       .next (logicDone (tookOperand o s) (s.a &&& operandByte o s) true) ∧
     exec (aluImmInstr .and n) s = .next (logicDone s (s.a &&& n) true)) ∧
    (exec (aluInstr .xor o) s =
       .next (logicDone (tookOperand o s) (s.a ^^^ operandByte o s) false) ∧
     exec (aluImmInstr .xor n) s = .next (logicDone s (s.a ^^^ n) false)) ∧
    (exec (aluInstr .or o) s =
       .next (logicDone (tookOperand o s) (s.a ||| operandByte o s) false) ∧
     exec (aluImmInstr .or n) s = .next (logicDone s (s.a ||| n) false))

/-- R132 to R134: CP writes the flags of the subtraction and leaves A. Constructors: cpB cpC cpD cpE cpH cpL cpAtHL
cpA cpImm. -/
def Obligations.CompareResult : Prop :=
  ∀ (s : State) (o : Operand8) (n : Byte),
    exec (aluInstr .cp o) s =
      .next { tookOperand o s with f := subFlags s (operandByte o s) 0 } ∧
    exec (aluImmInstr .cp n) s = .next { s with f := subFlags s n 0 }

/-- R135, R136: 8-bit INC of a register or of the byte at HL: N = 0, C kept. Constructors: incB incC incD incE incH
incL incAtHL incA. -/
def Obligations.IncByteResult : Prop :=
  ∀ (s : State) (o : Operand8),
    ∃ t, exec (incInstr o) s = .next t ∧
      Rewritten o (BitVec.ofNat 8 ((operandByte o s).toNat + 1))
        (fOf (decide (((operandByte o s).toNat + 1) % 256 = 0)) false
          (decide ((operandByte o s).toNat % 16 = 15)) (fc s)) s t

/-- R137, R138: 8-bit DEC. That N = 1 is the spec's decision D20. Constructors: decB decC decD decE decH decL
decAtHL decA. -/
def Obligations.DecByteResult : Prop :=
  ∀ (s : State) (o : Operand8),
    ∃ t, exec (decInstr o) s = .next t ∧
      Rewritten o (BitVec.ofNat 8 ((operandByte o s).toNat + 255))
        (fOf (decide ((operandByte o s).toNat = 1)) true (decide ((operandByte o s).toNat % 16 = 0)) (fc s)) s t

/-- R140: DAA under both values of `DAA_SUB_MODE` (decision D4). Constructor: daa. -/
def Obligations.DaaResult : Prop :=
  ∀ s : State,
    encode .daa = [0x27#8] ∧
    exec .daa s = .next
      (let a := s.a.toNat
       let tests := fn s = false ∨ s.cfg.daaSubMode = .sameConditions
       let loFix := fh s = true ∨ (tests ∧ a % 16 > 9)
       let hiFix := fc s = true ∨ (tests ∧ a > 0x99)
       let corr := (if loFix then 0x06 else 0) + (if hiFix then 0x60 else 0)
       let res := (if fn s then a + 256 - corr else a + corr) % 256
       { s with a := BitVec.ofNat 8 res, f := fOf (decide (res = 0)) (fn s) false (decide hiFix) })

/-- R12 (BCD correction), R140: two decimal digits added or subtracted in A, with a register, the byte at HL or an
immediate, and then corrected by DAA are the decimal sum or difference of the operands and the carry, with F.C the
decimal carry or borrow, under both DAA modes. -/
def Obligations.DecimalArithmeticIsCorrect : Prop :=
  ∀ (s : State) (m n : Nat) (i : AluOp → Instr), m < 100 → n < 100 → s.a = bcd m →
    ((∃ o : Operand8, operandByte o s = bcd n ∧ i = fun op => aluInstr op o) ∨ i = fun op => aluImmInstr op (bcd n)) →
    DecimalAfter (i .add) s ((m + n) % 100) (decide (100 ≤ m + n)) ∧
    DecimalAfter (i .adc) s ((m + n + (fc s).toNat) % 100) (decide (100 ≤ m + n + (fc s).toNat)) ∧
    DecimalAfter (i .sub) s ((m + 100 - n) % 100) (decide (m < n)) ∧
    DecimalAfter (i .sbc) s ((m + 200 - n - (fc s).toNat) % 100) (decide (m < n + (fc s).toNat))

/-- R141, R142, R143: CPL, SCF and CCF, which the source never names (decision D22). Constructors: cpl scf ccf. -/
def Obligations.ComplementAndCarryResult : Prop :=
  ∀ s : State,
    (encode .cpl = [0x2F#8] ∧ encode .scf = [0x37#8] ∧ encode .ccf = [0x3F#8]) ∧
    exec .cpl s = .next { s with a := BitVec.ofNat 8 (255 - s.a.toNat), f := fOf (fz s) true true (fc s) } ∧
    exec .scf s = .next { s with f := fOf (fz s) false false true } ∧
    exec .ccf s = .next { s with f := fOf (fz s) false false (!fc s) }

/-! ## 16-bit arithmetic -/

/-- R150: `ADD HL,rr`: Z kept, N = 0, H from bit 11, C from bit 15. Constructors: addHLBC addHLDE addHLHL addHLSP. -/
def Obligations.AddHlResult : Prop :=
  ∀ (s : State) (p : Pair),
    exec (addHlInstr p) s = .next
      (let x := s.hl.toNat
       let y := (pairWord s p).toNat
       { s with
         h := hiByte (BitVec.ofNat 16 (x + y)), l := loByte (BitVec.ofNat 16 (x + y))
         f := fOf (fz s) false (decide (x % 4096 + y % 4096 > 0xFFF)) (decide (x + y > 0xFFFF)) })

/-- R151, R152: 16-bit INC and DEC of the pair the field names and of nothing else; that no flag is written is the
spec's decision D20. Constructors: incBC incDE incHL incSP decBC decDE decHL decSP. -/
def Obligations.IncDecPairResult : Prop :=
  ∀ (s : State) (p : Pair),
    exec (incPairInstr p) s = .next (withPair s p (BitVec.ofNat 16 ((pairWord s p).toNat + 1))) ∧
    exec (decPairInstr p) s = .next (withPair s p (BitVec.ofNat 16 ((pairWord s p).toNat + 65535)))

/-- R153, R154, R224: the signed addition to SP, its H and C those of the unsigned addition of the low bytes.
Constructors: addSPImm ldHLSPImm. -/
def Obligations.SignedSpAddition : Prop :=
  ∀ (s : State) (n : Byte),
    (let res := BitVec.ofInt 16 ((s.sp.toNat : Int) + n.toInt)
     let f := fOf false false (decide (s.sp.toNat % 16 + n.toNat % 16 > 15)) (decide (s.sp.toNat % 256 + n.toNat > 255))
     exec (.addSPImm n) s = .next { s with sp := res, f := f } ∧
     exec (.ldHLSPImm n) s = .next { s with h := hiByte res, l := loByte res, f := f })

/-! ## Rotates, shifts and bits -/

/-- R161 to R164: the legacy rotates of A force Z = 0. Constructors: rlca rrca rla rra. -/
def Obligations.LegacyRotateResult : Prop :=
  ∀ s : State,
    (let done := fun op : ShiftOp =>
       let r := shiftSpec op s.a.toNat (fc s).toNat
       { s with a := BitVec.ofNat 8 r.1, f := fOf false false false (decide (r.2 = 1)) }
     exec .rlca s = .next (done .rlc) ∧ exec .rrca s = .next (done .rrc) ∧
     exec .rla s = .next (done .rl) ∧ exec .rra s = .next (done .rr))

/-- R165, R167, R169, R171, R173, R175, R177, R179: the CB rotates and shifts of a register.
Constructors: rlcB rlcC rlcD rlcE rlcH rlcL rlcA rrcB rrcC rrcD rrcE rrcH rrcL rrcA rlB rlC rlD rlE rlH rlL rlA rrB
rrC rrD rrE rrH rrL rrA slaB slaC slaD slaE slaH slaL slaA sraB sraC sraD sraE sraH sraL sraA swapB swapC swapD
swapE swapH swapL swapA srlB srlC srlD srlE srlH srlL srlA. -/
def Obligations.ShiftRegisterResult : Prop :=
  ∀ (s : State) (op : ShiftOp) (r : Reg8),
    (let res := shiftSpec op (regByte s r).toNat (fc s).toNat
     exec (shiftInstr op (.reg r)) s = .next { withReg s r (BitVec.ofNat 8 res.1) with
       f := fOf (decide (res.1 = 0)) false false (decide (res.2 = 1)) })

/-- R166, R168, R170, R172, R174, R176, R178, R180: the CB rotates and shifts of the byte at HL: one read, one write,
every other byte as before. Constructors: rlcAtHL rrcAtHL rlAtHL rrAtHL slaAtHL sraAtHL swapAtHL srlAtHL. -/
def Obligations.ShiftMemoryResult : Prop :=
  ∀ (s : State) (op : ShiftOp),
    ∃ t, exec (shiftInstr op .atHl) s = .next t ∧
      (let res := shiftSpec op (s.byteAt s.hl).toNat (fc s).toNat
       Rewritten .atHl (BitVec.ofNat 8 res.1) (fOf (decide (res.1 = 0)) false false (decide (res.2 = 1))) s t)

/-- R160 (conflict C10): RLC then RRC of the same register restores the byte, and so does RRC then RLC; RL then RR
restores the byte and the carry; SWAP twice restores the byte. -/
def Obligations.RotateRoundTrips : Prop :=
  ∀ (s : State) (r : Reg8),
    (∃ t u, exec (shiftInstr .rlc (.reg r)) s = .next t ∧ exec (shiftInstr .rrc (.reg r)) t = .next u ∧
      ∀ q : Reg8, regByte u q = regByte s q) ∧
    (∃ t u, exec (shiftInstr .rrc (.reg r)) s = .next t ∧ exec (shiftInstr .rlc (.reg r)) t = .next u ∧
      ∀ q : Reg8, regByte u q = regByte s q) ∧
    (∃ t u, exec (shiftInstr .rl (.reg r)) s = .next t ∧ exec (shiftInstr .rr (.reg r)) t = .next u ∧
      (∀ q : Reg8, regByte u q = regByte s q) ∧ fc u = fc s) ∧
    (∃ t u, exec (shiftInstr .swap (.reg r)) s = .next t ∧ exec (shiftInstr .swap (.reg r)) t = .next u ∧
      ∀ q : Reg8, regByte u q = regByte s q)

/-- R181, R182: BIT writes Z, N = 0 and H = 1 and nothing else; the `(HL)` form reads and does not write.
Constructors: bit0B bit0C bit0D bit0E bit0H bit0L bit0AtHL bit0A bit1B bit1C bit1D bit1E bit1H bit1L bit1AtHL bit1A
bit2B bit2C bit2D bit2E bit2H bit2L bit2AtHL bit2A bit3B bit3C bit3D bit3E bit3H bit3L bit3AtHL bit3A bit4B bit4C
bit4D bit4E bit4H bit4L bit4AtHL bit4A bit5B bit5C bit5D bit5E bit5H bit5L bit5AtHL bit5A bit6B bit6C bit6D bit6E
bit6H bit6L bit6AtHL bit6A bit7B bit7C bit7D bit7E bit7H bit7L bit7AtHL bit7A. -/
def Obligations.BitTestResult : Prop :=
  ∀ (s : State) (i : Fin 8) (o : Operand8),
    exec (bitInstr i o) s = .next { tookOperand o s with
      f := fOf (!(operandByte o s).getLsbD i.val) false true (fc s) }

/-- R183, R184, R185, R186: RES and SET change the one bit of the operand, write no flag, and on `(HL)` read once and
write once. Constructors: res0B res0C res0D res0E res0H res0L res0AtHL res0A res1B res1C res1D res1E res1H res1L
res1AtHL res1A res2B res2C res2D res2E res2H res2L res2AtHL res2A res3B res3C res3D res3E res3H res3L res3AtHL
res3A res4B res4C res4D res4E res4H res4L res4AtHL res4A res5B res5C res5D res5E res5H res5L res5AtHL res5A res6B
res6C res6D res6E res6H res6L res6AtHL res6A res7B res7C res7D res7E res7H res7L res7AtHL res7A set0B set0C set0D
set0E set0H set0L set0AtHL set0A set1B set1C set1D set1E set1H set1L set1AtHL set1A set2B set2C set2D set2E set2H
set2L set2AtHL set2A set3B set3C set3D set3E set3H set3L set3AtHL set3A set4B set4C set4D set4E set4H set4L
set4AtHL set4A set5B set5C set5D set5E set5H set5L set5AtHL set5A set6B set6C set6D set6E set6H set6L set6AtHL
set6A set7B set7C set7D set7E set7H set7L set7AtHL set7A. -/
def Obligations.ResetSetBitResult : Prop :=
  ∀ (s : State) (i : Fin 8) (o : Operand8),
    (∃ t v, exec (resInstr i o) s = .next t ∧ Rewritten o v s.f s t ∧
      ∀ k : Nat, k < 8 → v.getLsbD k = if k = i.val then false else (operandByte o s).getLsbD k) ∧
    (∃ t v, exec (setInstr i o) s = .next t ∧ Rewritten o v s.f s t ∧
      ∀ k : Nat, k < 8 → v.getLsbD k = if k = i.val then true else (operandByte o s).getLsbD k)

/-! ## 8-bit loads -/

/-- R190, R191: register to register and immediate to register: the destination and nothing else, the seven self-moves
nothing at all. Constructors: ldBB ldBC ldBD ldBE ldBH ldBL ldBA ldCB ldCC ldCD ldCE ldCH ldCL ldCA ldDB ldDC ldDD
ldDE ldDH ldDL ldDA ldEB ldEC ldED ldEE ldEH ldEL ldEA ldHB ldHC ldHD ldHE ldHH ldHL ldHA ldLB ldLC ldLD ldLE ldLH
ldLL ldLA ldAB ldAC ldAD ldAE ldAH ldAL ldAA ldBImm ldCImm ldDImm ldEImm ldHImm ldLImm ldAImm. -/
def Obligations.LoadRegisterResult : Prop :=
  ∀ (s : State) (dst r : Reg8) (n : Byte),
    exec (ldInstr (.reg dst) (.reg r)) s = .next (withReg s dst (regByte s r)) ∧
    exec (ldInstr (.reg dst) (.reg dst)) s = .next s ∧
    exec (ldImmInstr (.reg dst) n) s = .next (withReg s dst n)

/-- R192 to R198: loads and stores through HL, BC and DE: a load makes one read and writes the destination register,
a store writes the one byte; nothing else changes. Constructors: ldBAtHL ldCAtHL ldDAtHL ldEAtHL ldHAtHL ldLAtHL
ldAAtHL ldAAtBC ldAAtDE
ldAtHLB ldAtHLC ldAtHLD ldAtHLE ldAtHLH ldAtHLL ldAtHLA ldAtHLImm ldAtBCA ldAtDEA. -/
def Obligations.AccessThroughPairResult : Prop :=
  ∀ (s : State) (r : Reg8) (n : Byte),
    exec (ldInstr (.reg r) .atHl) s = .next (withReg (didRead s s.hl) r (s.byteAt s.hl)) ∧
    exec .ldAAtBC s = .next { didRead s s.bc with a := s.byteAt s.bc } ∧
    exec .ldAAtDE s = .next { didRead s s.de with a := s.byteAt s.de } ∧
    (∃ t, exec (ldInstr .atHl (.reg r)) s = .next t ∧ StoredByte s t s.hl (regByte s r)) ∧
    (∃ t, exec (.ldAtHLImm n) s = .next t ∧ StoredByte s t s.hl n) ∧
    (∃ t, exec .ldAtBCA s = .next t ∧ StoredByte s t s.bc s.a) ∧
    (∃ t, exec .ldAtDEA s = .next t ∧ StoredByte s t s.de s.a)

/-- R200 to R203: loads and stores of A through HL with post-increment and post-decrement modulo 65536: the access is
at the old HL. Constructors: ldAtHLIncA ldAtHLDecA ldAAtHLInc ldAAtHLDec. -/
def Obligations.HlStepAccessResult : Prop :=
  ∀ s : State,
    (let up := BitVec.ofNat 16 (s.hl.toNat + 1)
     let down := BitVec.ofNat 16 (s.hl.toNat + 65535)
     (∃ t, exec .ldAtHLIncA s = .next t ∧ StoredByte { s with h := hiByte up, l := loByte up } t s.hl s.a) ∧
     (∃ t, exec .ldAtHLDecA s = .next t ∧ StoredByte { s with h := hiByte down, l := loByte down } t s.hl s.a) ∧
     exec .ldAAtHLInc s = .next { didRead s s.hl with
       a := s.byteAt s.hl, h := hiByte up, l := loByte up } ∧
     exec .ldAAtHLDec s = .next { didRead s s.hl with
       a := s.byteAt s.hl, h := hiByte down, l := loByte down })

/-- R204 to R207 (decision D21): the high-page accesses at `0xFF00 + n` and `0xFF00 + C`.
Constructors: ldhAtImmA ldhAAtImm ldAtCA ldAAtC. -/
def Obligations.HighPageAccessResult : Prop :=
  ∀ (s : State) (n : Byte),
    (let atN := BitVec.ofNat 16 (0xFF00 + n.toNat)
     let atC := BitVec.ofNat 16 (0xFF00 + s.c.toNat)
     (∃ t, exec (.ldhAtImmA n) s = .next t ∧ StoredByte s t atN s.a) ∧
     (∃ t, exec .ldAtCA s = .next t ∧ StoredByte s t atC s.a) ∧
     exec (.ldhAAtImm n) s = .next { didRead s atN with a := s.byteAt atN } ∧
     exec .ldAAtC s = .next { didRead s atC with a := s.byteAt atC }) ∧
    encode (.ldhAtImmA n) = [0xE0#8, n] ∧ encode (.ldhAAtImm n) = [0xF0#8, n] ∧ encode .ldAtCA = [0xE2#8] ∧
    encode .ldAAtC = [0xF2#8]

/-- R208, R209, R221, R222, R240: the loads, the word store and the jump that the source never names (decision D22).
Constructors: ldAtImmA ldAAtImm ldAtImmSP ldSPHL jpHL. -/
def Obligations.SuppliedLoadsAndJumpResult : Prop :=
  ∀ (s : State) (nn : Word),
    (∃ t, exec (.ldAtImmA nn) s = .next t ∧ StoredByte s t nn s.a) ∧
    exec (.ldAAtImm nn) s = .next { didRead s nn with a := s.byteAt nn } ∧
    (∃ t, exec (.ldAtImmSP nn) s = .next t ∧ StoredWord s t nn s.sp) ∧
    exec .ldSPHL s = .next { s with sp := s.hl } ∧
    exec .jpHL s = .next { s with pc := s.hl } ∧
    encode (.ldAtImmA nn) = [0xEA#8, loByte nn, hiByte nn] ∧ encode (.ldAAtImm nn) = [0xFA#8, loByte nn, hiByte nn] ∧
    encode (.ldAtImmSP nn) = [0x08#8, loByte nn, hiByte nn] ∧ encode .ldSPHL = [0xF9#8] ∧ encode .jpHL = [0xE9#8]

/-! ## 16-bit loads and the stack -/

/-- R220: an immediate word to a pair, the first immediate byte the low one. Constructors: ldBCImm ldDEImm ldHLImm
ldSPImm. -/
def Obligations.LoadPairImmediateResult : Prop :=
  ∀ (s : State) (p : Pair) (nn : Word),
    exec (ldPairInstr p nn) s = .next
      (match p with
       | .bc => { s with b := hiByte nn, c := loByte nn }
       | .de => { s with d := hiByte nn, e := loByte nn }
       | .hl => { s with h := hiByte nn, l := loByte nn }
       | .sp => { s with sp := nn })

/-- R225, R227: PUSH moves SP down by two and writes the pair there, low byte first; PUSH AF writes a byte of F whose
low nibble is 0. Constructors: pushBC pushDE pushHL pushAF. -/
def Obligations.PushResult : Prop :=
  ∀ (s : State) (p : StackPair),
    ∃ t, exec (pushInstr p) s = .next t ∧
      PushedAndWent s t
        (match p with
         | .bc => wordOf s.b s.c
         | .de => wordOf s.d s.e
         | .hl => wordOf s.h s.l
         | .af => wordOf s.a (s.f &&& 0xF0#8)) s.pc

/-- R226, R228, R229: POP reads the word at SP into the pair and moves SP up by two; POP AF clears the low nibble of F.
Constructors: popBC popDE popHL popAF. -/
def Obligations.PopResult : Prop :=
  ∀ (s : State) (p : StackPair),
    exec (popInstr p) s = .next
      (let hi := hiByte (stackTop s)
       let lo := loByte (stackTop s)
       let t := popped s
       match p with
       | .bc => { t with b := hi, c := lo }
       | .de => { t with d := hi, e := lo }
       | .hl => { t with h := hi, l := lo }
       | .af => { t with a := hi, f := lo &&& 0xF0#8 })

/-- R230, and the source's scenario 5 (R241, R243), with the flat memory attached (R51): a pushed pair popped again is the
same pair with the same SP, for every SP, where for AF the low nibble of F is 0 to begin with (R25); a CALL and the RET
at its target come back to the address after the CALL with SP as it was. -/
def Obligations.StackRoundTrips : Prop :=
  (∀ (s : State) (p : StackPair), s.attached = .flat → (p = .af → s.f &&& 0x0F#8 = 0#8) →
    ∃ t u, exec (pushInstr p) s = .next t ∧ exec (popInstr p) t = .next u ∧
      u = { s with mem := u.mem, bus := u.bus } ∧ u.mem = t.mem) ∧
  (∀ (s : State) (nn : Word), s.attached = .flat →
    ∃ t u, exec (.call nn) s = .next t ∧ exec .ret { t with pc := nn + 1 } = .next u ∧
      u = { s with mem := t.mem, bus := u.bus })

/-! ## Control transfer -/

/-- R236 to R239: JR and JP, with and without a condition. The JR offset is signed, counts from the address after the
instruction, and the sum wraps. Constructors: jr jrNZ jrZ jrNC jrC jp jpNZ jpZ jpNC jpC. -/
def Obligations.JumpResult : Prop :=
  ∀ (s : State) (cc : Cond) (n : Byte) (nn : Word),
    (let target := BitVec.ofInt 16 ((s.pc.toNat : Int) + n.toInt)
     exec (.jr n) s = .next { s with pc := target } ∧
     exec (jrInstr cc n) s = .next { s with pc := if condHolds cc s then target else s.pc } ∧
     exec (.jp nn) s = .next { s with pc := nn } ∧
     exec (jpInstr cc nn) s = .next { s with pc := if condHolds cc s then nn else s.pc })

/-- R241, R242, R245: CALL and RST push the address of the next instruction and go to the target; a CALL whose condition
is false does nothing. Constructors: call callNZ callZ callNC callC rst00 rst08 rst10 rst18 rst20 rst28 rst30
rst38. -/
def Obligations.CallAndRestartResult : Prop :=
  ∀ (s : State) (cc : Cond) (nn : Word) (i : Fin 8),
    (∃ t, exec (.call nn) s = .next t ∧ PushedAndWent s t s.pc nn) ∧
    (∃ t, exec (callInstr cc nn) s = .next t ∧
      if condHolds cc s then PushedAndWent s t s.pc nn else t = s) ∧
    (∃ t, exec (rstInstr i) s = .next t ∧ PushedAndWent s t s.pc (BitVec.ofNat 16 (8 * i.val)))

/-- R243, R244, R247: RET, RET cc and RETI pop PC; RETI sets `ime` in the same step; a RET whose condition is false does
not read the stack. Constructors: ret retNZ retZ retNC retC reti. -/
def Obligations.ReturnResult : Prop :=
  ∀ (s : State) (cc : Cond),
    (let back := { popped s with pc := stackTop s }
     exec .ret s = .next back ∧
     exec (retInstr cc) s = .next (if condHolds cc s then back else s) ∧
     exec .reti s = .next { back with ime := true })

/-- R248: a step of a conditional JR, JP, CALL or RET whose condition is false only fetches its own bytes and advances PC
by its fixed length (2, 3, 3, 1), with no effect on the stack or the memory. -/
def Obligations.UntakenBranchOnlyAdvances : Prop :=
  ∀ (s : State) (k len : Nat) (op : Nat), s.halted = false → k < 4 → condHolds (Cond.ofCode k) s = false →
    (op, len) ∈ [(0x20 + 8 * k, 2), (0xC2 + 8 * k, 3), (0xC4 + 8 * k, 3), (0xC0 + 8 * k, 1)] →
    s.byteAt s.pc = BitVec.ofNat 8 op →
    ∃ cycles, step s = .next { s with
      pc := s.pc + BitVec.ofNat 16 len
      attached := s.attached.skip len
      bus := fetches s len
      cycles := cycles }

/-! ## System instructions and host actions -/

/-- R255, R263: NOP and the eleven reserved bytes do nothing. Constructors: nop reservedD3 reservedDB reservedDD
reservedE3 reservedE4 reservedEB reservedEC reservedED reservedF4 reservedFC reservedFD. -/
def Obligations.NopAndReservedDoNothing : Prop :=
  ∀ (s : State) (i : Instr),
    i ∈ [Instr.nop, .reservedD3, .reservedDB, .reservedDD, .reservedE3, .reservedE4, .reservedEB, .reservedEC,
      .reservedED, .reservedF4, .reservedFC, .reservedFD] →
    exec i s = .next s

/-- R256, R259, R260: HALT sets `halted`, EI sets `ime`, DI clears it, each nothing else. That EI acts in its own step,
with no delay, is decision D13 (R281, log entry 17); that HALT does not depend on `ime` or a pending request, so that no
HALT bug is modelled, is log entry 28. Constructors: halt ei di. -/
def Obligations.HaltEiDiResult : Prop :=
  ∀ s : State,
    exec .halt s = .next { s with halted := true } ∧ exec .ei s = .next { s with ime := true } ∧
    exec .di s = .next { s with ime := false }

/-- R257 (decision D3): STOP under each of the four policies. Under every policy but `refuse` it completes.
Constructor: stop. -/
def Obligations.StopFollowsPolicy : Prop :=
  ∀ s : State,
    encode .stop = [0x10#8] ∧
    exec .stop s =
      match s.cfg.stopPolicy with
      | .refuse => .refused .stopNotSpecified
      | .nop1 => .next s
      | .nop2 => .next { didRead s s.pc with pc := s.pc + 1 }
      | .halt => .next { s with halted := true }

/-- R278, R280 (decisions D11, D12): Wake clears `halted` and nothing else; interrupt entry is allowed with `ime` = 1
only, clears `halted` and `ime`, pushes PC and goes to the vector, reporting 20 cycles by default (decision D17); with
the flat memory attached RETI after it (R282) comes back to the interrupted address with SP as it was, `ime` set and the
block awake. -/
def Obligations.WakeAndInterruptEntry : Prop :=
  ∀ (s : State) (v : IntVector),
    hostAction .wake s = some { s with halted := false } ∧
    (s.ime = false → hostAction (.intEntry v) s = none) ∧
    (s.ime = true → ∃ t, hostAction (.intEntry v) s = some t ∧
      PushedAndWent { s with ime := false, halted := false, bus := [], cycles := costOr s .intEntry 20 } t s.pc
        (match v with
         | .vblank => 0x0040#16
         | .lcdStat => 0x0048#16
         | .timer => 0x0050#16
         | .serial => 0x0058#16
         | .joypad => 0x0060#16) ∧
      (s.attached = .flat → ∃ u, exec .reti t = .next u ∧
        u = { s with mem := t.mem, halted := false, ime := true, bus := u.bus, cycles := costOr s .intEntry 20 }))

/-! ## Whole-machine rules -/

/-- R30: EI and RETI set `ime`, DI clears it, each in its own step (decision D13, log entry 17), no other instruction
writes it, and no instruction reads it: a run with another `ime` differs in `ime` alone. -/
def Obligations.ImeIsWriteOnly : Prop :=
  ∀ (i : Instr) (s t : State) (v : Bool), exec i s = .next t →
    exec i { s with ime := v } = .next { t with
      ime := if i = .ei ∨ i = .reti then true else if i = .di then false else v }

/-- R31: `halted` is read and cleared by no instruction, and set by HALT alone (and by STOP under the policy `halt`): a
run with another `halted` differs in `halted` alone. -/
def Obligations.OnlyHaltSetsHalted : Prop :=
  ∀ (i : Instr) (s t : State) (v : Bool), exec i s = .next t →
    let after := fun before : Bool => if i = .halt ∨ (i = .stop ∧ s.cfg.stopPolicy = .halt) then true else before
    t.halted = after s.halted ∧ exec i { s with halted := v } = .next { t with halted := after v }

/-- R26, R199, R235: an instruction outside the rows of R26 that name a flag leaves F as it is. -/
def Obligations.OtherInstructionsKeepFlags : Prop :=
  ∀ (i : Instr) (s t : State), writesFlags i = false → exec i s = .next t → t.f = s.f

/-- R61, R62: an instruction with no store leaves every byte of memory as it is and writes nothing on the bus. -/
def Obligations.OtherInstructionsKeepMemory : Prop :=
  ∀ (i : Instr) (s t : State), storesToMemory i = false → exec i s = .next t →
    (∀ x : Word, t.ram x = s.ram x) ∧
    ∃ reads : List (Word × Byte),
      t.bus = s.bus ++ reads.map (fun r => .read r.1 r.2) ∧ t.attached = s.attached.skip reads.length

/-- R27, R28: PC stays past the instruction's own bytes unless it transfers control, and SP stays unless the instruction
is in the list of R28. -/
def Obligations.OtherInstructionsKeepPcAndSp : Prop :=
  ∀ (i : Instr) (s t : State), exec i s = .next t →
    (transfersControl i = false → t.pc = s.pc) ∧ (writesSp i = false → t.sp = s.sp)
end

