-- ==== Sys2Proof/Laws/Blocks.lean ====
section
/-! SUPPORT. Every instruction is in a block of the two opcode maps or is one of the instructions that stand alone, so
that a fact about all of them is proved block by block. -/

namespace Sys2Proof

open Sys2Proof.Machine

theorem Instr.byBlock {P : Instr → Prop}
    (alu : ∀ op o, P (aluInstr op o))
    (aluNow : ∀ op n, P (aluImmInstr op n))
    (inc : ∀ o, P (incInstr o))
    (dec : ∀ o, P (decInstr o))
    (ldNow : ∀ o n, P (ldImmInstr o n))
    (ldReg : ∀ dst src, P (ldInstr (.reg dst) src))
    (ldStore : ∀ r, P (ldInstr .atHl (.reg r)))
    (ldPair : ∀ p nn, P (ldPairInstr p nn))
    (incPair : ∀ p, P (incPairInstr p))
    (decPair : ∀ p, P (decPairInstr p))
    (addHl : ∀ p, P (addHlInstr p))
    (storeA : ∀ p, P (storeAInstr p))
    (loadA : ∀ p, P (loadAInstr p))
    (pop : ∀ p, P (popInstr p))
    (push : ∀ p, P (pushInstr p))
    (jrCond : ∀ cc n, P (jrInstr cc n))
    (retCond : ∀ cc, P (retInstr cc))
    (jpCond : ∀ cc nn, P (jpInstr cc nn))
    (callCond : ∀ cc nn, P (callInstr cc nn))
    (rst : ∀ i, P (rstInstr i))
    (shift : ∀ op o, P (shiftInstr op o))
    (bit : ∀ i o, P (bitInstr i o))
    (res : ∀ i o, P (resInstr i o))
    (set : ∀ i o, P (setInstr i o))
    (onlyLdAtImmSP : ∀ nn, P (.ldAtImmSP nn))
    (onlyJr : ∀ n, P (.jr n))
    (onlyJp : ∀ nn, P (.jp nn))
    (onlyCall : ∀ nn, P (.call nn))
    (onlyLdhAtImmA : ∀ n, P (.ldhAtImmA n))
    (onlyAddSPImm : ∀ n, P (.addSPImm n))
    (onlyLdAtImmA : ∀ nn, P (.ldAtImmA nn))
    (onlyLdhAAtImm : ∀ n, P (.ldhAAtImm n))
    (onlyLdHLSPImm : ∀ n, P (.ldHLSPImm n))
    (onlyLdAAtImm : ∀ nn, P (.ldAAtImm nn))
    (onlyNop : P .nop)
    (onlyRlca : P .rlca)
    (onlyRrca : P .rrca)
    (onlyStop : P .stop)
    (onlyRla : P .rla)
    (onlyRra : P .rra)
    (onlyDaa : P .daa)
    (onlyCpl : P .cpl)
    (onlyScf : P .scf)
    (onlyCcf : P .ccf)
    (onlyHalt : P .halt)
    (onlyRet : P .ret)
    (onlyPrefixCb : P .prefixCb)
    (onlyReservedD3 : P .reservedD3)
    (onlyReti : P .reti)
    (onlyReservedDB : P .reservedDB)
    (onlyReservedDD : P .reservedDD)
    (onlyLdAtCA : P .ldAtCA)
    (onlyReservedE3 : P .reservedE3)
    (onlyReservedE4 : P .reservedE4)
    (onlyJpHL : P .jpHL)
    (onlyReservedEB : P .reservedEB)
    (onlyReservedEC : P .reservedEC)
    (onlyReservedED : P .reservedED)
    (onlyLdAAtC : P .ldAAtC)
    (onlyDi : P .di)
    (onlyReservedF4 : P .reservedF4)
    (onlyLdSPHL : P .ldSPHL)
    (onlyEi : P .ei)
    (onlyReservedFC : P .reservedFC)
    (onlyReservedFD : P .reservedFD)
    (i : Instr) : P i := by
  cases i with
  | ldBCImm nn => exact ldPair .bc nn
  | ldBImm n => exact ldNow (.reg .b) n
  | ldAtImmSP nn => exact onlyLdAtImmSP nn
  | ldCImm n => exact ldNow (.reg .c) n
  | ldDEImm nn => exact ldPair .de nn
  | ldDImm n => exact ldNow (.reg .d) n
  | jr n => exact onlyJr n
  | ldEImm n => exact ldNow (.reg .e) n
  | jrNZ n => exact jrCond .nz n
  | ldHLImm nn => exact ldPair .hl nn
  | ldHImm n => exact ldNow (.reg .h) n
  | jrZ n => exact jrCond .z n
  | ldLImm n => exact ldNow (.reg .l) n
  | jrNC n => exact jrCond .nc n
  | ldSPImm nn => exact ldPair .sp nn
  | ldAtHLImm n => exact ldNow .atHl n
  | jrC n => exact jrCond .c n
  | ldAImm n => exact ldNow (.reg .a) n
  | jpNZ nn => exact jpCond .nz nn
  | jp nn => exact onlyJp nn
  | callNZ nn => exact callCond .nz nn
  | addAImm n => exact aluNow .add n
  | jpZ nn => exact jpCond .z nn
  | callZ nn => exact callCond .z nn
  | call nn => exact onlyCall nn
  | adcAImm n => exact aluNow .adc n
  | jpNC nn => exact jpCond .nc nn
  | callNC nn => exact callCond .nc nn
  | subImm n => exact aluNow .sub n
  | jpC nn => exact jpCond .c nn
  | callC nn => exact callCond .c nn
  | sbcAImm n => exact aluNow .sbc n
  | ldhAtImmA n => exact onlyLdhAtImmA n
  | andImm n => exact aluNow .and n
  | addSPImm n => exact onlyAddSPImm n
  | ldAtImmA nn => exact onlyLdAtImmA nn
  | xorImm n => exact aluNow .xor n
  | ldhAAtImm n => exact onlyLdhAAtImm n
  | orImm n => exact aluNow .or n
  | ldHLSPImm n => exact onlyLdHLSPImm n
  | ldAAtImm nn => exact onlyLdAAtImm nn
  | cpImm n => exact aluNow .cp n
  | nop => exact onlyNop
  | ldAtBCA => exact storeA .bc
  | incBC => exact incPair .bc
  | incB => exact inc (.reg .b)
  | decB => exact dec (.reg .b)
  | rlca => exact onlyRlca
  | addHLBC => exact addHl .bc
  | ldAAtBC => exact loadA .bc
  | decBC => exact decPair .bc
  | incC => exact inc (.reg .c)
  | decC => exact dec (.reg .c)
  | rrca => exact onlyRrca
  | stop => exact onlyStop
  | ldAtDEA => exact storeA .de
  | incDE => exact incPair .de
  | incD => exact inc (.reg .d)
  | decD => exact dec (.reg .d)
  | rla => exact onlyRla
  | addHLDE => exact addHl .de
  | ldAAtDE => exact loadA .de
  | decDE => exact decPair .de
  | incE => exact inc (.reg .e)
  | decE => exact dec (.reg .e)
  | rra => exact onlyRra
  | ldAtHLIncA => exact storeA .hlInc
  | incHL => exact incPair .hl
  | incH => exact inc (.reg .h)
  | decH => exact dec (.reg .h)
  | daa => exact onlyDaa
  | addHLHL => exact addHl .hl
  | ldAAtHLInc => exact loadA .hlInc
  | decHL => exact decPair .hl
  | incL => exact inc (.reg .l)
  | decL => exact dec (.reg .l)
  | cpl => exact onlyCpl
  | ldAtHLDecA => exact storeA .hlDec
  | incSP => exact incPair .sp
  | incAtHL => exact inc .atHl
  | decAtHL => exact dec .atHl
  | scf => exact onlyScf
  | addHLSP => exact addHl .sp
  | ldAAtHLDec => exact loadA .hlDec
  | decSP => exact decPair .sp
  | incA => exact inc (.reg .a)
  | decA => exact dec (.reg .a)
  | ccf => exact onlyCcf
  | ldBB => exact ldReg .b (.reg .b)
  | ldBC => exact ldReg .b (.reg .c)
  | ldBD => exact ldReg .b (.reg .d)
  | ldBE => exact ldReg .b (.reg .e)
  | ldBH => exact ldReg .b (.reg .h)
  | ldBL => exact ldReg .b (.reg .l)
  | ldBAtHL => exact ldReg .b .atHl
  | ldBA => exact ldReg .b (.reg .a)
  | ldCB => exact ldReg .c (.reg .b)
  | ldCC => exact ldReg .c (.reg .c)
  | ldCD => exact ldReg .c (.reg .d)
  | ldCE => exact ldReg .c (.reg .e)
  | ldCH => exact ldReg .c (.reg .h)
  | ldCL => exact ldReg .c (.reg .l)
  | ldCAtHL => exact ldReg .c .atHl
  | ldCA => exact ldReg .c (.reg .a)
  | ldDB => exact ldReg .d (.reg .b)
  | ldDC => exact ldReg .d (.reg .c)
  | ldDD => exact ldReg .d (.reg .d)
  | ldDE => exact ldReg .d (.reg .e)
  | ldDH => exact ldReg .d (.reg .h)
  | ldDL => exact ldReg .d (.reg .l)
  | ldDAtHL => exact ldReg .d .atHl
  | ldDA => exact ldReg .d (.reg .a)
  | ldEB => exact ldReg .e (.reg .b)
  | ldEC => exact ldReg .e (.reg .c)
  | ldED => exact ldReg .e (.reg .d)
  | ldEE => exact ldReg .e (.reg .e)
  | ldEH => exact ldReg .e (.reg .h)
  | ldEL => exact ldReg .e (.reg .l)
  | ldEAtHL => exact ldReg .e .atHl
  | ldEA => exact ldReg .e (.reg .a)
  | ldHB => exact ldReg .h (.reg .b)
  | ldHC => exact ldReg .h (.reg .c)
  | ldHD => exact ldReg .h (.reg .d)
  | ldHE => exact ldReg .h (.reg .e)
  | ldHH => exact ldReg .h (.reg .h)
  | ldHL => exact ldReg .h (.reg .l)
  | ldHAtHL => exact ldReg .h .atHl
  | ldHA => exact ldReg .h (.reg .a)
  | ldLB => exact ldReg .l (.reg .b)
  | ldLC => exact ldReg .l (.reg .c)
  | ldLD => exact ldReg .l (.reg .d)
  | ldLE => exact ldReg .l (.reg .e)
  | ldLH => exact ldReg .l (.reg .h)
  | ldLL => exact ldReg .l (.reg .l)
  | ldLAtHL => exact ldReg .l .atHl
  | ldLA => exact ldReg .l (.reg .a)
  | ldAtHLB => exact ldStore .b
  | ldAtHLC => exact ldStore .c
  | ldAtHLD => exact ldStore .d
  | ldAtHLE => exact ldStore .e
  | ldAtHLH => exact ldStore .h
  | ldAtHLL => exact ldStore .l
  | halt => exact onlyHalt
  | ldAtHLA => exact ldStore .a
  | ldAB => exact ldReg .a (.reg .b)
  | ldAC => exact ldReg .a (.reg .c)
  | ldAD => exact ldReg .a (.reg .d)
  | ldAE => exact ldReg .a (.reg .e)
  | ldAH => exact ldReg .a (.reg .h)
  | ldAL => exact ldReg .a (.reg .l)
  | ldAAtHL => exact ldReg .a .atHl
  | ldAA => exact ldReg .a (.reg .a)
  | addAB => exact alu .add (.reg .b)
  | addAC => exact alu .add (.reg .c)
  | addAD => exact alu .add (.reg .d)
  | addAE => exact alu .add (.reg .e)
  | addAH => exact alu .add (.reg .h)
  | addAL => exact alu .add (.reg .l)
  | addAAtHL => exact alu .add .atHl
  | addAA => exact alu .add (.reg .a)
  | adcAB => exact alu .adc (.reg .b)
  | adcAC => exact alu .adc (.reg .c)
  | adcAD => exact alu .adc (.reg .d)
  | adcAE => exact alu .adc (.reg .e)
  | adcAH => exact alu .adc (.reg .h)
  | adcAL => exact alu .adc (.reg .l)
  | adcAAtHL => exact alu .adc .atHl
  | adcAA => exact alu .adc (.reg .a)
  | subB => exact alu .sub (.reg .b)
  | subC => exact alu .sub (.reg .c)
  | subD => exact alu .sub (.reg .d)
  | subE => exact alu .sub (.reg .e)
  | subH => exact alu .sub (.reg .h)
  | subL => exact alu .sub (.reg .l)
  | subAtHL => exact alu .sub .atHl
  | subA => exact alu .sub (.reg .a)
  | sbcAB => exact alu .sbc (.reg .b)
  | sbcAC => exact alu .sbc (.reg .c)
  | sbcAD => exact alu .sbc (.reg .d)
  | sbcAE => exact alu .sbc (.reg .e)
  | sbcAH => exact alu .sbc (.reg .h)
  | sbcAL => exact alu .sbc (.reg .l)
  | sbcAAtHL => exact alu .sbc .atHl
  | sbcAA => exact alu .sbc (.reg .a)
  | andB => exact alu .and (.reg .b)
  | andC => exact alu .and (.reg .c)
  | andD => exact alu .and (.reg .d)
  | andE => exact alu .and (.reg .e)
  | andH => exact alu .and (.reg .h)
  | andL => exact alu .and (.reg .l)
  | andAtHL => exact alu .and .atHl
  | andA => exact alu .and (.reg .a)
  | xorB => exact alu .xor (.reg .b)
  | xorC => exact alu .xor (.reg .c)
  | xorD => exact alu .xor (.reg .d)
  | xorE => exact alu .xor (.reg .e)
  | xorH => exact alu .xor (.reg .h)
  | xorL => exact alu .xor (.reg .l)
  | xorAtHL => exact alu .xor .atHl
  | xorA => exact alu .xor (.reg .a)
  | orB => exact alu .or (.reg .b)
  | orC => exact alu .or (.reg .c)
  | orD => exact alu .or (.reg .d)
  | orE => exact alu .or (.reg .e)
  | orH => exact alu .or (.reg .h)
  | orL => exact alu .or (.reg .l)
  | orAtHL => exact alu .or .atHl
  | orA => exact alu .or (.reg .a)
  | cpB => exact alu .cp (.reg .b)
  | cpC => exact alu .cp (.reg .c)
  | cpD => exact alu .cp (.reg .d)
  | cpE => exact alu .cp (.reg .e)
  | cpH => exact alu .cp (.reg .h)
  | cpL => exact alu .cp (.reg .l)
  | cpAtHL => exact alu .cp .atHl
  | cpA => exact alu .cp (.reg .a)
  | retNZ => exact retCond .nz
  | popBC => exact pop .bc
  | pushBC => exact push .bc
  | rst00 => exact rst 0
  | retZ => exact retCond .z
  | ret => exact onlyRet
  | prefixCb => exact onlyPrefixCb
  | rst08 => exact rst 1
  | retNC => exact retCond .nc
  | popDE => exact pop .de
  | reservedD3 => exact onlyReservedD3
  | pushDE => exact push .de
  | rst10 => exact rst 2
  | retC => exact retCond .c
  | reti => exact onlyReti
  | reservedDB => exact onlyReservedDB
  | reservedDD => exact onlyReservedDD
  | rst18 => exact rst 3
  | popHL => exact pop .hl
  | ldAtCA => exact onlyLdAtCA
  | reservedE3 => exact onlyReservedE3
  | reservedE4 => exact onlyReservedE4
  | pushHL => exact push .hl
  | rst20 => exact rst 4
  | jpHL => exact onlyJpHL
  | reservedEB => exact onlyReservedEB
  | reservedEC => exact onlyReservedEC
  | reservedED => exact onlyReservedED
  | rst28 => exact rst 5
  | popAF => exact pop .af
  | ldAAtC => exact onlyLdAAtC
  | di => exact onlyDi
  | reservedF4 => exact onlyReservedF4
  | pushAF => exact push .af
  | rst30 => exact rst 6
  | ldSPHL => exact onlyLdSPHL
  | ei => exact onlyEi
  | reservedFC => exact onlyReservedFC
  | reservedFD => exact onlyReservedFD
  | rst38 => exact rst 7
  | rlcB => exact shift .rlc (.reg .b)
  | rlcC => exact shift .rlc (.reg .c)
  | rlcD => exact shift .rlc (.reg .d)
  | rlcE => exact shift .rlc (.reg .e)
  | rlcH => exact shift .rlc (.reg .h)
  | rlcL => exact shift .rlc (.reg .l)
  | rlcAtHL => exact shift .rlc .atHl
  | rlcA => exact shift .rlc (.reg .a)
  | rrcB => exact shift .rrc (.reg .b)
  | rrcC => exact shift .rrc (.reg .c)
  | rrcD => exact shift .rrc (.reg .d)
  | rrcE => exact shift .rrc (.reg .e)
  | rrcH => exact shift .rrc (.reg .h)
  | rrcL => exact shift .rrc (.reg .l)
  | rrcAtHL => exact shift .rrc .atHl
  | rrcA => exact shift .rrc (.reg .a)
  | rlB => exact shift .rl (.reg .b)
  | rlC => exact shift .rl (.reg .c)
  | rlD => exact shift .rl (.reg .d)
  | rlE => exact shift .rl (.reg .e)
  | rlH => exact shift .rl (.reg .h)
  | rlL => exact shift .rl (.reg .l)
  | rlAtHL => exact shift .rl .atHl
  | rlA => exact shift .rl (.reg .a)
  | rrB => exact shift .rr (.reg .b)
  | rrC => exact shift .rr (.reg .c)
  | rrD => exact shift .rr (.reg .d)
  | rrE => exact shift .rr (.reg .e)
  | rrH => exact shift .rr (.reg .h)
  | rrL => exact shift .rr (.reg .l)
  | rrAtHL => exact shift .rr .atHl
  | rrA => exact shift .rr (.reg .a)
  | slaB => exact shift .sla (.reg .b)
  | slaC => exact shift .sla (.reg .c)
  | slaD => exact shift .sla (.reg .d)
  | slaE => exact shift .sla (.reg .e)
  | slaH => exact shift .sla (.reg .h)
  | slaL => exact shift .sla (.reg .l)
  | slaAtHL => exact shift .sla .atHl
  | slaA => exact shift .sla (.reg .a)
  | sraB => exact shift .sra (.reg .b)
  | sraC => exact shift .sra (.reg .c)
  | sraD => exact shift .sra (.reg .d)
  | sraE => exact shift .sra (.reg .e)
  | sraH => exact shift .sra (.reg .h)
  | sraL => exact shift .sra (.reg .l)
  | sraAtHL => exact shift .sra .atHl
  | sraA => exact shift .sra (.reg .a)
  | swapB => exact shift .swap (.reg .b)
  | swapC => exact shift .swap (.reg .c)
  | swapD => exact shift .swap (.reg .d)
  | swapE => exact shift .swap (.reg .e)
  | swapH => exact shift .swap (.reg .h)
  | swapL => exact shift .swap (.reg .l)
  | swapAtHL => exact shift .swap .atHl
  | swapA => exact shift .swap (.reg .a)
  | srlB => exact shift .srl (.reg .b)
  | srlC => exact shift .srl (.reg .c)
  | srlD => exact shift .srl (.reg .d)
  | srlE => exact shift .srl (.reg .e)
  | srlH => exact shift .srl (.reg .h)
  | srlL => exact shift .srl (.reg .l)
  | srlAtHL => exact shift .srl .atHl
  | srlA => exact shift .srl (.reg .a)
  | bit0B => exact bit 0 (.reg .b)
  | bit0C => exact bit 0 (.reg .c)
  | bit0D => exact bit 0 (.reg .d)
  | bit0E => exact bit 0 (.reg .e)
  | bit0H => exact bit 0 (.reg .h)
  | bit0L => exact bit 0 (.reg .l)
  | bit0AtHL => exact bit 0 .atHl
  | bit0A => exact bit 0 (.reg .a)
  | bit1B => exact bit 1 (.reg .b)
  | bit1C => exact bit 1 (.reg .c)
  | bit1D => exact bit 1 (.reg .d)
  | bit1E => exact bit 1 (.reg .e)
  | bit1H => exact bit 1 (.reg .h)
  | bit1L => exact bit 1 (.reg .l)
  | bit1AtHL => exact bit 1 .atHl
  | bit1A => exact bit 1 (.reg .a)
  | bit2B => exact bit 2 (.reg .b)
  | bit2C => exact bit 2 (.reg .c)
  | bit2D => exact bit 2 (.reg .d)
  | bit2E => exact bit 2 (.reg .e)
  | bit2H => exact bit 2 (.reg .h)
  | bit2L => exact bit 2 (.reg .l)
  | bit2AtHL => exact bit 2 .atHl
  | bit2A => exact bit 2 (.reg .a)
  | bit3B => exact bit 3 (.reg .b)
  | bit3C => exact bit 3 (.reg .c)
  | bit3D => exact bit 3 (.reg .d)
  | bit3E => exact bit 3 (.reg .e)
  | bit3H => exact bit 3 (.reg .h)
  | bit3L => exact bit 3 (.reg .l)
  | bit3AtHL => exact bit 3 .atHl
  | bit3A => exact bit 3 (.reg .a)
  | bit4B => exact bit 4 (.reg .b)
  | bit4C => exact bit 4 (.reg .c)
  | bit4D => exact bit 4 (.reg .d)
  | bit4E => exact bit 4 (.reg .e)
  | bit4H => exact bit 4 (.reg .h)
  | bit4L => exact bit 4 (.reg .l)
  | bit4AtHL => exact bit 4 .atHl
  | bit4A => exact bit 4 (.reg .a)
  | bit5B => exact bit 5 (.reg .b)
  | bit5C => exact bit 5 (.reg .c)
  | bit5D => exact bit 5 (.reg .d)
  | bit5E => exact bit 5 (.reg .e)
  | bit5H => exact bit 5 (.reg .h)
  | bit5L => exact bit 5 (.reg .l)
  | bit5AtHL => exact bit 5 .atHl
  | bit5A => exact bit 5 (.reg .a)
  | bit6B => exact bit 6 (.reg .b)
  | bit6C => exact bit 6 (.reg .c)
  | bit6D => exact bit 6 (.reg .d)
  | bit6E => exact bit 6 (.reg .e)
  | bit6H => exact bit 6 (.reg .h)
  | bit6L => exact bit 6 (.reg .l)
  | bit6AtHL => exact bit 6 .atHl
  | bit6A => exact bit 6 (.reg .a)
  | bit7B => exact bit 7 (.reg .b)
  | bit7C => exact bit 7 (.reg .c)
  | bit7D => exact bit 7 (.reg .d)
  | bit7E => exact bit 7 (.reg .e)
  | bit7H => exact bit 7 (.reg .h)
  | bit7L => exact bit 7 (.reg .l)
  | bit7AtHL => exact bit 7 .atHl
  | bit7A => exact bit 7 (.reg .a)
  | res0B => exact res 0 (.reg .b)
  | res0C => exact res 0 (.reg .c)
  | res0D => exact res 0 (.reg .d)
  | res0E => exact res 0 (.reg .e)
  | res0H => exact res 0 (.reg .h)
  | res0L => exact res 0 (.reg .l)
  | res0AtHL => exact res 0 .atHl
  | res0A => exact res 0 (.reg .a)
  | res1B => exact res 1 (.reg .b)
  | res1C => exact res 1 (.reg .c)
  | res1D => exact res 1 (.reg .d)
  | res1E => exact res 1 (.reg .e)
  | res1H => exact res 1 (.reg .h)
  | res1L => exact res 1 (.reg .l)
  | res1AtHL => exact res 1 .atHl
  | res1A => exact res 1 (.reg .a)
  | res2B => exact res 2 (.reg .b)
  | res2C => exact res 2 (.reg .c)
  | res2D => exact res 2 (.reg .d)
  | res2E => exact res 2 (.reg .e)
  | res2H => exact res 2 (.reg .h)
  | res2L => exact res 2 (.reg .l)
  | res2AtHL => exact res 2 .atHl
  | res2A => exact res 2 (.reg .a)
  | res3B => exact res 3 (.reg .b)
  | res3C => exact res 3 (.reg .c)
  | res3D => exact res 3 (.reg .d)
  | res3E => exact res 3 (.reg .e)
  | res3H => exact res 3 (.reg .h)
  | res3L => exact res 3 (.reg .l)
  | res3AtHL => exact res 3 .atHl
  | res3A => exact res 3 (.reg .a)
  | res4B => exact res 4 (.reg .b)
  | res4C => exact res 4 (.reg .c)
  | res4D => exact res 4 (.reg .d)
  | res4E => exact res 4 (.reg .e)
  | res4H => exact res 4 (.reg .h)
  | res4L => exact res 4 (.reg .l)
  | res4AtHL => exact res 4 .atHl
  | res4A => exact res 4 (.reg .a)
  | res5B => exact res 5 (.reg .b)
  | res5C => exact res 5 (.reg .c)
  | res5D => exact res 5 (.reg .d)
  | res5E => exact res 5 (.reg .e)
  | res5H => exact res 5 (.reg .h)
  | res5L => exact res 5 (.reg .l)
  | res5AtHL => exact res 5 .atHl
  | res5A => exact res 5 (.reg .a)
  | res6B => exact res 6 (.reg .b)
  | res6C => exact res 6 (.reg .c)
  | res6D => exact res 6 (.reg .d)
  | res6E => exact res 6 (.reg .e)
  | res6H => exact res 6 (.reg .h)
  | res6L => exact res 6 (.reg .l)
  | res6AtHL => exact res 6 .atHl
  | res6A => exact res 6 (.reg .a)
  | res7B => exact res 7 (.reg .b)
  | res7C => exact res 7 (.reg .c)
  | res7D => exact res 7 (.reg .d)
  | res7E => exact res 7 (.reg .e)
  | res7H => exact res 7 (.reg .h)
  | res7L => exact res 7 (.reg .l)
  | res7AtHL => exact res 7 .atHl
  | res7A => exact res 7 (.reg .a)
  | set0B => exact set 0 (.reg .b)
  | set0C => exact set 0 (.reg .c)
  | set0D => exact set 0 (.reg .d)
  | set0E => exact set 0 (.reg .e)
  | set0H => exact set 0 (.reg .h)
  | set0L => exact set 0 (.reg .l)
  | set0AtHL => exact set 0 .atHl
  | set0A => exact set 0 (.reg .a)
  | set1B => exact set 1 (.reg .b)
  | set1C => exact set 1 (.reg .c)
  | set1D => exact set 1 (.reg .d)
  | set1E => exact set 1 (.reg .e)
  | set1H => exact set 1 (.reg .h)
  | set1L => exact set 1 (.reg .l)
  | set1AtHL => exact set 1 .atHl
  | set1A => exact set 1 (.reg .a)
  | set2B => exact set 2 (.reg .b)
  | set2C => exact set 2 (.reg .c)
  | set2D => exact set 2 (.reg .d)
  | set2E => exact set 2 (.reg .e)
  | set2H => exact set 2 (.reg .h)
  | set2L => exact set 2 (.reg .l)
  | set2AtHL => exact set 2 .atHl
  | set2A => exact set 2 (.reg .a)
  | set3B => exact set 3 (.reg .b)
  | set3C => exact set 3 (.reg .c)
  | set3D => exact set 3 (.reg .d)
  | set3E => exact set 3 (.reg .e)
  | set3H => exact set 3 (.reg .h)
  | set3L => exact set 3 (.reg .l)
  | set3AtHL => exact set 3 .atHl
  | set3A => exact set 3 (.reg .a)
  | set4B => exact set 4 (.reg .b)
  | set4C => exact set 4 (.reg .c)
  | set4D => exact set 4 (.reg .d)
  | set4E => exact set 4 (.reg .e)
  | set4H => exact set 4 (.reg .h)
  | set4L => exact set 4 (.reg .l)
  | set4AtHL => exact set 4 .atHl
  | set4A => exact set 4 (.reg .a)
  | set5B => exact set 5 (.reg .b)
  | set5C => exact set 5 (.reg .c)
  | set5D => exact set 5 (.reg .d)
  | set5E => exact set 5 (.reg .e)
  | set5H => exact set 5 (.reg .h)
  | set5L => exact set 5 (.reg .l)
  | set5AtHL => exact set 5 .atHl
  | set5A => exact set 5 (.reg .a)
  | set6B => exact set 6 (.reg .b)
  | set6C => exact set 6 (.reg .c)
  | set6D => exact set 6 (.reg .d)
  | set6E => exact set 6 (.reg .e)
  | set6H => exact set 6 (.reg .h)
  | set6L => exact set 6 (.reg .l)
  | set6AtHL => exact set 6 .atHl
  | set6A => exact set 6 (.reg .a)
  | set7B => exact set 7 (.reg .b)
  | set7C => exact set 7 (.reg .c)
  | set7D => exact set 7 (.reg .d)
  | set7E => exact set 7 (.reg .e)
  | set7H => exact set 7 (.reg .h)
  | set7L => exact set 7 (.reg .l)
  | set7AtHL => exact set 7 .atHl
  | set7A => exact set 7 (.reg .a)

end Sys2Proof
end

