-- ==== Sys2Proof/Laws/Dispatch.lean ====
section
/-! SUPPORT. What `exec` runs for the regular blocks of the two opcode maps: one lemma for each block, so that a proof
about a block cites it and never unfolds the match over all instructions. -/

namespace Sys2Proof.Machine

variable (s : State)

theorem exec_aluInstr (op : AluOp) (o : Operand8) : exec (aluInstr op o) s = aluOn op o s := by
  cases op <;> rcases o with r | _ <;> first | rfl | (cases r <;> rfl)

theorem exec_aluImmInstr (op : AluOp) (n : Byte) : exec (aluImmInstr op n) s = aluImm op n s := by
  cases op <;> rfl

theorem exec_incInstr (o : Operand8) : exec (incInstr o) s = incOn o s := by
  rcases o with r | _ <;> first | rfl | (cases r <;> rfl)

theorem exec_decInstr (o : Operand8) : exec (decInstr o) s = decOn o s := by
  rcases o with r | _ <;> first | rfl | (cases r <;> rfl)

theorem exec_ldImmInstr (o : Operand8) (n : Byte) : exec (ldImmInstr o n) s = ldImmOn o n s := by
  rcases o with r | _ <;> first | rfl | (cases r <;> rfl)

theorem exec_ldInstr_reg (dst : Reg8) (src : Operand8) :
    exec (ldInstr (.reg dst) src) s = ldOn (.reg dst) src s := by
  cases dst <;> rcases src with r | _ <;> first | rfl | (cases r <;> rfl)

theorem exec_ldInstr_store (r : Reg8) : exec (ldInstr .atHl (.reg r)) s = ldOn .atHl (.reg r) s := by
  cases r <;> rfl

theorem exec_ldPairInstr (p : Pair) (nn : Word) : exec (ldPairInstr p nn) s = .next (s.setPair p nn) := by
  cases p <;> rfl

theorem exec_incPairInstr (p : Pair) : exec (incPairInstr p) s = incPairOn p s := by cases p <;> rfl

theorem exec_decPairInstr (p : Pair) : exec (decPairInstr p) s = decPairOn p s := by cases p <;> rfl

theorem exec_addHlInstr (p : Pair) : exec (addHlInstr p) s = addHlOn p s := by cases p <;> rfl

theorem exec_storeAInstr (p : MemPair) : exec (storeAInstr p) s = storeAVia p s := by cases p <;> rfl

theorem exec_loadAInstr (p : MemPair) : exec (loadAInstr p) s = loadAVia p s := by cases p <;> rfl

theorem exec_pushInstr (p : StackPair) : exec (pushInstr p) s = pushPair p s := by cases p <;> rfl

theorem exec_popInstr (p : StackPair) : exec (popInstr p) s = popPair p s := by cases p <;> rfl

theorem exec_jrInstr (cc : Cond) (n : Byte) : exec (jrInstr cc n) s = jrIf (s.cond cc) n s := by cases cc <;> rfl

theorem exec_jpInstr (cc : Cond) (nn : Word) : exec (jpInstr cc nn) s = jpIf (s.cond cc) nn s := by cases cc <;> rfl

theorem exec_callInstr (cc : Cond) (nn : Word) : exec (callInstr cc nn) s = callIf (s.cond cc) nn s := by
  cases cc <;> rfl

theorem exec_retInstr (cc : Cond) : exec (retInstr cc) s = retIf (s.cond cc) s := by cases cc <;> rfl

theorem exec_rstInstr (i : Fin 8) : exec (rstInstr i) s = restart i s := by
  match i with
  | 0 | 1 | 2 | 3 | 4 | 5 | 6 | 7 => rfl

theorem exec_shiftInstr (op : ShiftOp) (o : Operand8) : exec (shiftInstr op o) s = shiftOn op o s := by
  cases op <;> rcases o with r | _ <;> first | rfl | (cases r <;> rfl)

theorem exec_bitInstr (i : Fin 8) (o : Operand8) : exec (bitInstr i o) s = testBit i o s := by
  match i with
  | 0 | 1 | 2 | 3 | 4 | 5 | 6 | 7 => rcases o with r | _ <;> first | rfl | (cases r <;> rfl)

theorem exec_resInstr (i : Fin 8) (o : Operand8) : exec (resInstr i o) s = resetBit i o s := by
  match i with
  | 0 | 1 | 2 | 3 | 4 | 5 | 6 | 7 => rcases o with r | _ <;> first | rfl | (cases r <;> rfl)

theorem exec_setInstr (i : Fin 8) (o : Operand8) : exec (setInstr i o) s = setBit i o s := by
  match i with
  | 0 | 1 | 2 | 3 | 4 | 5 | 6 | 7 => rcases o with r | _ <;> first | rfl | (cases r <;> rfl)

end Sys2Proof.Machine
end

