-- ==== Sys2Proof/Laws/Flags.lean ====
section
/-! SUPPORT. What the flag layout and the arithmetic helpers answer, one lemma for each part a proof needs. -/

namespace Sys2Proof.Machine

/-- The flags come back from the byte they are laid out in (R24). -/
@[simp] theorem Flags.ofByte_toByte (fl : Flags) : Flags.ofByte fl.toByte = fl := by
  rcases fl with ⟨z, n, h, c⟩
  cases z <;> cases n <;> cases h <;> cases c <;> rfl

/-- The byte of the flags has a zero low nibble already (R25). -/
@[simp] theorem Flags.toByte_masked (fl : Flags) : fl.toByte &&& flagMask = fl.toByte := by
  rcases fl with ⟨z, n, h, c⟩
  cases z <;> cases n <;> cases h <;> cases c <;> rfl

@[simp] theorem Flags.toByte_low (fl : Flags) : fl.toByte &&& 0x0F#8 = 0#8 := by
  rcases fl with ⟨z, n, h, c⟩
  cases z <;> cases n <;> cases h <;> cases c <;> rfl

/-- A masked byte has a zero low nibble (R25). -/
@[simp] theorem flagMask_low (v : Byte) : v &&& flagMask &&& 0x0F#8 = 0#8 := by
  rw [BitVec.and_assoc, show flagMask &&& 0x0F#8 = 0#8 from rfl, BitVec.and_zero]

@[simp] theorem flagMask_twice (v : Byte) : v &&& flagMask &&& flagMask = v &&& flagMask := by
  rw [BitVec.and_assoc, BitVec.and_self]

/-- The flags read the high nibble only (R24). -/
@[simp] theorem Flags.ofByte_masked (v : Byte) : Flags.ofByte (v &&& flagMask) = Flags.ofByte v := by
  simp [Flags.ofByte, flagMask]

/-- The flags of a byte, laid out again, are its high nibble (R24, R25). -/
theorem Flags.toByte_ofByte (v : Byte) : (Flags.ofByte v).toByte = v &&& flagMask := by
  revert v; decide

/-- A byte is zero exactly if the number it was reduced from is a multiple of 256. -/
theorem ofNat8_beq_zero (k : Nat) : (BitVec.ofNat 8 k == 0#8) = decide (k % 256 = 0) := by
  rw [Bool.eq_iff_iff, beq_iff_eq, decide_eq_true_eq]
  constructor
  · intro h; simpa using congrArg BitVec.toNat h
  · intro h; apply BitVec.eq_of_toNat_eq; simpa using h

@[simp] theorem add8_fst (a b : Byte) (cin : Bool) : (add8 a b cin).1 = BitVec.ofNat 8 (a.toNat + b.toNat + cin.toNat) := rfl

@[simp] theorem sub8_fst (a b : Byte) (cin : Bool) :
    (sub8 a b cin).1 = BitVec.ofInt 8 ((a.toNat : Int) - (b.toNat : Int) - (cin.toNat : Int)) := rfl

end Sys2Proof.Machine
end

