-- ==== Sys2Proof/Laws/Memory.lean ====
section
/-! SUPPORT. The laws of the flat memory (R51, R68): a read answers the most recent write, a write changes no other
byte, and the canonical form is kept. The read laws hold of every list of cells, canonical or not. -/

namespace Sys2Proof.Machine

@[simp] theorem Memory.read_nil (a : Nat) : Memory.read [] a = initByte a := rfl

theorem Memory.read_erase_same (m : Memory) (a : Nat) : Memory.read (Memory.erase m a) a = initByte a := by
  induction m with
  | nil => rfl
  | cons cell rest ih =>
    obtain ⟨k, v⟩ := cell
    by_cases h : k = a <;> simp [Memory.erase, Memory.read, h, ih]

theorem Memory.read_erase_other (m : Memory) (a b : Nat) (h : b ≠ a) :
    Memory.read (Memory.erase m a) b = Memory.read m b := by
  induction m with
  | nil => rfl
  | cons cell rest ih =>
    obtain ⟨k, v⟩ := cell
    by_cases hk : k = a
    · subst hk
      simp [Memory.erase, Memory.read, ih, h.symm]
    · simp [Memory.erase, Memory.read, hk, ih]

theorem Memory.read_insert_same (m : Memory) (a : Nat) (v : Byte) :
    Memory.read (Memory.insert (Memory.erase m a) a v) a = v := by
  induction m with
  | nil => simp [Memory.erase, Memory.insert, Memory.read]
  | cons cell rest ih =>
    obtain ⟨k, w⟩ := cell
    by_cases hk : k = a
    · simp [Memory.erase, hk, ih]
    · by_cases hlt : a < k <;> simp [Memory.erase, Memory.insert, Memory.read, hk, hlt, ih]

theorem Memory.read_insert_other (m : Memory) (a b : Nat) (v : Byte) (h : b ≠ a) :
    Memory.read (Memory.insert m a v) b = Memory.read m b := by
  induction m with
  | nil => simp [Memory.insert, Memory.read, h.symm]
  | cons cell rest ih =>
    obtain ⟨k, w⟩ := cell
    by_cases hlt : a < k <;> simp [Memory.insert, Memory.read, hlt, ih, h.symm]

/-- A read after a write to the same address answers the value written. -/
@[simp] theorem Memory.read_write_same (m : Memory) (a : Nat) (v : Byte) :
    Memory.read (Memory.write m a v) a = v := by
  unfold Memory.write
  split
  · rename_i h
    rw [Memory.read_erase_same, h]
  · exact Memory.read_insert_same m a v

/-- A write leaves every other address alone. -/
theorem Memory.read_write_other (m : Memory) (a b : Nat) (v : Byte) (h : b ≠ a) :
    Memory.read (Memory.write m a v) b = Memory.read m b := by
  unfold Memory.write
  split
  · exact Memory.read_erase_other m a b h
  · rw [Memory.read_insert_other _ a b v h, Memory.read_erase_other m a b h]

theorem Memory.wfFrom_mono (m : Memory) {lo lo' : Nat} (h : lo ≤ lo') (hm : Memory.wfFrom lo' m = true) :
    Memory.wfFrom lo m = true := by
  cases m with
  | nil => rfl
  | cons cell rest =>
    obtain ⟨k, v⟩ := cell
    simp only [Memory.wfFrom, Bool.and_eq_true, decide_eq_true_eq] at hm ⊢
    exact ⟨⟨⟨by omega, hm.1.1.2⟩, hm.1.2⟩, hm.2⟩

theorem Memory.wfFrom_erase (m : Memory) (a lo : Nat) (hm : Memory.wfFrom lo m = true) :
    Memory.wfFrom lo (Memory.erase m a) = true := by
  induction m generalizing lo with
  | nil => rfl
  | cons cell rest ih =>
    obtain ⟨k, v⟩ := cell
    simp only [Memory.wfFrom, Bool.and_eq_true, decide_eq_true_eq] at hm
    by_cases hk : k = a
    · simp only [Memory.erase, hk, if_true]
      exact Memory.wfFrom_mono _ (by omega) (ih (k + 1) hm.2)
    · simp only [Memory.erase, hk, if_false, Memory.wfFrom, Bool.and_eq_true, decide_eq_true_eq]
      exact ⟨hm.1, ih (k + 1) hm.2⟩

theorem Memory.wfFrom_insert (m : Memory) (a : Nat) (v : Byte) (lo : Nat) (hlo : lo ≤ a) (ha : a < 65536)
    (hv : v ≠ initByte a) (hm : Memory.wfFrom lo m = true) :
    Memory.wfFrom lo (Memory.insert (Memory.erase m a) a v) = true := by
  induction m generalizing lo with
  | nil => simp [Memory.erase, Memory.insert, Memory.wfFrom, hlo, ha, hv]
  | cons cell rest ih =>
    obtain ⟨k, w⟩ := cell
    have hm' := hm
    simp only [Memory.wfFrom, Bool.and_eq_true, decide_eq_true_eq] at hm'
    by_cases hk : k = a
    · simp only [Memory.erase, hk, if_true]
      exact ih lo hlo (Memory.wfFrom_mono _ (by omega) hm'.2)
    · by_cases hlt : a < k
      · simp only [Memory.erase, hk, if_false, Memory.insert, hlt, if_true, Memory.wfFrom, Bool.and_eq_true,
          decide_eq_true_eq, bne_iff_ne, ne_eq]
        refine ⟨⟨⟨hlo, ha⟩, hv⟩, ⟨⟨⟨by omega, hm'.1.1.2⟩, ?_⟩, Memory.wfFrom_erase rest a (k + 1) hm'.2⟩⟩
        simpa using hm'.1.2
      · simp only [Memory.erase, hk, if_false, Memory.insert, hlt, Memory.wfFrom, Bool.and_eq_true,
          decide_eq_true_eq]
        exact ⟨hm'.1, ih (k + 1) (by omega) hm'.2⟩

/-- A write keeps the canonical form. -/
theorem Memory.write_wf (m : Memory) (a : Nat) (v : Byte) (ha : a < 65536) (hm : Memory.wf m = true) :
    Memory.wf (Memory.write m a v) = true := by
  unfold Memory.write Memory.wf at *
  split
  · exact Memory.wfFrom_erase m a 0 hm
  · rename_i hv
    exact Memory.wfFrom_insert m a v 0 (Nat.zero_le a) ha hv hm

end Sys2Proof.Machine

/-! ### The bus (R51) -/

namespace Sys2Proof

open Sys2Proof.Machine

@[simp] theorem Bus.skip_zero (b : Bus) : b.skip 0 = b := by cases b <;> rfl

@[simp] theorem Bus.skip_skip (b : Bus) (m n : Nat) : (b.skip m).skip n = b.skip (m + n) := by
  cases b
  case flat => rfl
  case oracle answers asked => simp [Bus.skip, Nat.add_assoc]

@[simp] theorem Bus.answer_skip (b : Bus) (n k : Nat) (stored : Byte) :
    (b.skip n).answer k stored = b.answer (n + k) stored := by
  cases b
  case flat => rfl
  case oracle answers asked => simp [Bus.answer, Bus.skip, Nat.add_assoc]

@[simp] theorem Bus.skip_eq_flat (b : Bus) (n : Nat) : b.skip n = .flat ↔ b = .flat := by
  cases b <;> simp [Bus.skip]

@[simp] theorem Bus.store_skip (b : Bus) (n : Nat) (m : Memory) (a : Nat) (v : Byte) :
    (b.skip n).store m a v = b.store m a v := by cases b <;> rfl

/-- The flat memory read after a write through any bus. -/
theorem Bus.read_store (b : Bus) (m : Memory) (a x : Nat) (v : Byte) :
    Memory.read (b.store m a v) x = if x = a ∧ b = .flat then v else Memory.read m x := by
  cases b
  case flat =>
    by_cases h : x = a
    · subst h; simp [Bus.store]
    · simp [Bus.store, h, Memory.read_write_other m a x v h]
  case oracle answers asked => simp [Bus.store]

/-- A write through any bus keeps the canonical form. -/
theorem Bus.store_wf (b : Bus) (m : Memory) (a : Nat) (v : Byte) (ha : a < 65536) (hm : Memory.wf m = true) :
    Memory.wf (b.store m a v) = true := by
  cases b
  case flat => exact Memory.write_wf m a v ha hm
  case oracle answers asked => exact hm

end Sys2Proof
end

