-- ==== Sys2Proof/Laws/State.lean ====
section
/-! SUPPORT. One lemma for each field of the state after each named update, so that no proof unfolds a record update. -/

namespace Sys2Proof.Machine

variable (s : State)

/-! ### `State.setPc` -/

@[simp] theorem State.setPc_a (v : Word) : (s.setPc v).a = s.a := rfl
@[simp] theorem State.setPc_f (v : Word) : (s.setPc v).f = s.f := rfl
@[simp] theorem State.setPc_b (v : Word) : (s.setPc v).b = s.b := rfl
@[simp] theorem State.setPc_c (v : Word) : (s.setPc v).c = s.c := rfl
@[simp] theorem State.setPc_d (v : Word) : (s.setPc v).d = s.d := rfl
@[simp] theorem State.setPc_e (v : Word) : (s.setPc v).e = s.e := rfl
@[simp] theorem State.setPc_h (v : Word) : (s.setPc v).h = s.h := rfl
@[simp] theorem State.setPc_l (v : Word) : (s.setPc v).l = s.l := rfl
@[simp] theorem State.setPc_sp (v : Word) : (s.setPc v).sp = s.sp := rfl
@[simp] theorem State.setPc_pc (v : Word) : (s.setPc v).pc = v := rfl
@[simp] theorem State.setPc_ime (v : Word) : (s.setPc v).ime = s.ime := rfl
@[simp] theorem State.setPc_halted (v : Word) : (s.setPc v).halted = s.halted := rfl
@[simp] theorem State.setPc_mem (v : Word) : (s.setPc v).mem = s.mem := rfl
@[simp] theorem State.setPc_attached (v : Word) : (s.setPc v).attached = s.attached := rfl
@[simp] theorem State.setPc_bus (v : Word) : (s.setPc v).bus = s.bus := rfl
@[simp] theorem State.setPc_cycles (v : Word) : (s.setPc v).cycles = s.cycles := rfl
@[simp] theorem State.setPc_cfg (v : Word) : (s.setPc v).cfg = s.cfg := rfl

/-! ### `State.setSp` -/

@[simp] theorem State.setSp_a (v : Word) : (s.setSp v).a = s.a := rfl
@[simp] theorem State.setSp_f (v : Word) : (s.setSp v).f = s.f := rfl
@[simp] theorem State.setSp_b (v : Word) : (s.setSp v).b = s.b := rfl
@[simp] theorem State.setSp_c (v : Word) : (s.setSp v).c = s.c := rfl
@[simp] theorem State.setSp_d (v : Word) : (s.setSp v).d = s.d := rfl
@[simp] theorem State.setSp_e (v : Word) : (s.setSp v).e = s.e := rfl
@[simp] theorem State.setSp_h (v : Word) : (s.setSp v).h = s.h := rfl
@[simp] theorem State.setSp_l (v : Word) : (s.setSp v).l = s.l := rfl
@[simp] theorem State.setSp_sp (v : Word) : (s.setSp v).sp = v := rfl
@[simp] theorem State.setSp_pc (v : Word) : (s.setSp v).pc = s.pc := rfl
@[simp] theorem State.setSp_ime (v : Word) : (s.setSp v).ime = s.ime := rfl
@[simp] theorem State.setSp_halted (v : Word) : (s.setSp v).halted = s.halted := rfl
@[simp] theorem State.setSp_mem (v : Word) : (s.setSp v).mem = s.mem := rfl
@[simp] theorem State.setSp_attached (v : Word) : (s.setSp v).attached = s.attached := rfl
@[simp] theorem State.setSp_bus (v : Word) : (s.setSp v).bus = s.bus := rfl
@[simp] theorem State.setSp_cycles (v : Word) : (s.setSp v).cycles = s.cycles := rfl
@[simp] theorem State.setSp_cfg (v : Word) : (s.setSp v).cfg = s.cfg := rfl

/-! ### `State.setIme` -/

@[simp] theorem State.setIme_a (v : Bool) : (s.setIme v).a = s.a := rfl
@[simp] theorem State.setIme_f (v : Bool) : (s.setIme v).f = s.f := rfl
@[simp] theorem State.setIme_b (v : Bool) : (s.setIme v).b = s.b := rfl
@[simp] theorem State.setIme_c (v : Bool) : (s.setIme v).c = s.c := rfl
@[simp] theorem State.setIme_d (v : Bool) : (s.setIme v).d = s.d := rfl
@[simp] theorem State.setIme_e (v : Bool) : (s.setIme v).e = s.e := rfl
@[simp] theorem State.setIme_h (v : Bool) : (s.setIme v).h = s.h := rfl
@[simp] theorem State.setIme_l (v : Bool) : (s.setIme v).l = s.l := rfl
@[simp] theorem State.setIme_sp (v : Bool) : (s.setIme v).sp = s.sp := rfl
@[simp] theorem State.setIme_pc (v : Bool) : (s.setIme v).pc = s.pc := rfl
@[simp] theorem State.setIme_ime (v : Bool) : (s.setIme v).ime = v := rfl
@[simp] theorem State.setIme_halted (v : Bool) : (s.setIme v).halted = s.halted := rfl
@[simp] theorem State.setIme_mem (v : Bool) : (s.setIme v).mem = s.mem := rfl
@[simp] theorem State.setIme_attached (v : Bool) : (s.setIme v).attached = s.attached := rfl
@[simp] theorem State.setIme_bus (v : Bool) : (s.setIme v).bus = s.bus := rfl
@[simp] theorem State.setIme_cycles (v : Bool) : (s.setIme v).cycles = s.cycles := rfl
@[simp] theorem State.setIme_cfg (v : Bool) : (s.setIme v).cfg = s.cfg := rfl

/-! ### `State.setHalted` -/

@[simp] theorem State.setHalted_a (v : Bool) : (s.setHalted v).a = s.a := rfl
@[simp] theorem State.setHalted_f (v : Bool) : (s.setHalted v).f = s.f := rfl
@[simp] theorem State.setHalted_b (v : Bool) : (s.setHalted v).b = s.b := rfl
@[simp] theorem State.setHalted_c (v : Bool) : (s.setHalted v).c = s.c := rfl
@[simp] theorem State.setHalted_d (v : Bool) : (s.setHalted v).d = s.d := rfl
@[simp] theorem State.setHalted_e (v : Bool) : (s.setHalted v).e = s.e := rfl
@[simp] theorem State.setHalted_h (v : Bool) : (s.setHalted v).h = s.h := rfl
@[simp] theorem State.setHalted_l (v : Bool) : (s.setHalted v).l = s.l := rfl
@[simp] theorem State.setHalted_sp (v : Bool) : (s.setHalted v).sp = s.sp := rfl
@[simp] theorem State.setHalted_pc (v : Bool) : (s.setHalted v).pc = s.pc := rfl
@[simp] theorem State.setHalted_ime (v : Bool) : (s.setHalted v).ime = s.ime := rfl
@[simp] theorem State.setHalted_halted (v : Bool) : (s.setHalted v).halted = v := rfl
@[simp] theorem State.setHalted_mem (v : Bool) : (s.setHalted v).mem = s.mem := rfl
@[simp] theorem State.setHalted_attached (v : Bool) : (s.setHalted v).attached = s.attached := rfl
@[simp] theorem State.setHalted_bus (v : Bool) : (s.setHalted v).bus = s.bus := rfl
@[simp] theorem State.setHalted_cycles (v : Bool) : (s.setHalted v).cycles = s.cycles := rfl
@[simp] theorem State.setHalted_cfg (v : Bool) : (s.setHalted v).cfg = s.cfg := rfl

/-! ### `State.afterRead` -/

@[simp] theorem State.afterRead_a (addr : Word) : (s.afterRead addr).a = s.a := rfl
@[simp] theorem State.afterRead_f (addr : Word) : (s.afterRead addr).f = s.f := rfl
@[simp] theorem State.afterRead_b (addr : Word) : (s.afterRead addr).b = s.b := rfl
@[simp] theorem State.afterRead_c (addr : Word) : (s.afterRead addr).c = s.c := rfl
@[simp] theorem State.afterRead_d (addr : Word) : (s.afterRead addr).d = s.d := rfl
@[simp] theorem State.afterRead_e (addr : Word) : (s.afterRead addr).e = s.e := rfl
@[simp] theorem State.afterRead_h (addr : Word) : (s.afterRead addr).h = s.h := rfl
@[simp] theorem State.afterRead_l (addr : Word) : (s.afterRead addr).l = s.l := rfl
@[simp] theorem State.afterRead_sp (addr : Word) : (s.afterRead addr).sp = s.sp := rfl
@[simp] theorem State.afterRead_pc (addr : Word) : (s.afterRead addr).pc = s.pc := rfl
@[simp] theorem State.afterRead_ime (addr : Word) : (s.afterRead addr).ime = s.ime := rfl
@[simp] theorem State.afterRead_halted (addr : Word) : (s.afterRead addr).halted = s.halted := rfl
@[simp] theorem State.afterRead_mem (addr : Word) : (s.afterRead addr).mem = s.mem := rfl
@[simp] theorem State.afterRead_attached (addr : Word) : (s.afterRead addr).attached = s.attached.skip 1 := rfl
@[simp] theorem State.afterRead_bus (addr : Word) : (s.afterRead addr).bus = s.bus ++ [.read addr (s.byteAt addr)] := rfl
@[simp] theorem State.afterRead_cycles (addr : Word) : (s.afterRead addr).cycles = s.cycles := rfl
@[simp] theorem State.afterRead_cfg (addr : Word) : (s.afterRead addr).cfg = s.cfg := rfl

/-! ### `State.setFlagByte` -/

@[simp] theorem State.setFlagByte_a (v : Byte) : (s.setFlagByte v).a = s.a := rfl
@[simp] theorem State.setFlagByte_f (v : Byte) : (s.setFlagByte v).f = v &&& flagMask := rfl
@[simp] theorem State.setFlagByte_b (v : Byte) : (s.setFlagByte v).b = s.b := rfl
@[simp] theorem State.setFlagByte_c (v : Byte) : (s.setFlagByte v).c = s.c := rfl
@[simp] theorem State.setFlagByte_d (v : Byte) : (s.setFlagByte v).d = s.d := rfl
@[simp] theorem State.setFlagByte_e (v : Byte) : (s.setFlagByte v).e = s.e := rfl
@[simp] theorem State.setFlagByte_h (v : Byte) : (s.setFlagByte v).h = s.h := rfl
@[simp] theorem State.setFlagByte_l (v : Byte) : (s.setFlagByte v).l = s.l := rfl
@[simp] theorem State.setFlagByte_sp (v : Byte) : (s.setFlagByte v).sp = s.sp := rfl
@[simp] theorem State.setFlagByte_pc (v : Byte) : (s.setFlagByte v).pc = s.pc := rfl
@[simp] theorem State.setFlagByte_ime (v : Byte) : (s.setFlagByte v).ime = s.ime := rfl
@[simp] theorem State.setFlagByte_halted (v : Byte) : (s.setFlagByte v).halted = s.halted := rfl
@[simp] theorem State.setFlagByte_mem (v : Byte) : (s.setFlagByte v).mem = s.mem := rfl
@[simp] theorem State.setFlagByte_attached (v : Byte) : (s.setFlagByte v).attached = s.attached := rfl
@[simp] theorem State.setFlagByte_bus (v : Byte) : (s.setFlagByte v).bus = s.bus := rfl
@[simp] theorem State.setFlagByte_cycles (v : Byte) : (s.setFlagByte v).cycles = s.cycles := rfl
@[simp] theorem State.setFlagByte_cfg (v : Byte) : (s.setFlagByte v).cfg = s.cfg := rfl

/-! ### `State.setAf` -/

@[simp] theorem State.setAf_a (v : Word) : (s.setAf v).a = hiByte v := rfl
@[simp] theorem State.setAf_f (v : Word) : (s.setAf v).f = loByte v &&& flagMask := rfl
@[simp] theorem State.setAf_b (v : Word) : (s.setAf v).b = s.b := rfl
@[simp] theorem State.setAf_c (v : Word) : (s.setAf v).c = s.c := rfl
@[simp] theorem State.setAf_d (v : Word) : (s.setAf v).d = s.d := rfl
@[simp] theorem State.setAf_e (v : Word) : (s.setAf v).e = s.e := rfl
@[simp] theorem State.setAf_h (v : Word) : (s.setAf v).h = s.h := rfl
@[simp] theorem State.setAf_l (v : Word) : (s.setAf v).l = s.l := rfl
@[simp] theorem State.setAf_sp (v : Word) : (s.setAf v).sp = s.sp := rfl
@[simp] theorem State.setAf_pc (v : Word) : (s.setAf v).pc = s.pc := rfl
@[simp] theorem State.setAf_ime (v : Word) : (s.setAf v).ime = s.ime := rfl
@[simp] theorem State.setAf_halted (v : Word) : (s.setAf v).halted = s.halted := rfl
@[simp] theorem State.setAf_mem (v : Word) : (s.setAf v).mem = s.mem := rfl
@[simp] theorem State.setAf_attached (v : Word) : (s.setAf v).attached = s.attached := rfl
@[simp] theorem State.setAf_bus (v : Word) : (s.setAf v).bus = s.bus := rfl
@[simp] theorem State.setAf_cycles (v : Word) : (s.setAf v).cycles = s.cycles := rfl
@[simp] theorem State.setAf_cfg (v : Word) : (s.setAf v).cfg = s.cfg := rfl

/-! ### `State.setBc` -/

@[simp] theorem State.setBc_a (v : Word) : (s.setBc v).a = s.a := rfl
@[simp] theorem State.setBc_f (v : Word) : (s.setBc v).f = s.f := rfl
@[simp] theorem State.setBc_b (v : Word) : (s.setBc v).b = hiByte v := rfl
@[simp] theorem State.setBc_c (v : Word) : (s.setBc v).c = loByte v := rfl
@[simp] theorem State.setBc_d (v : Word) : (s.setBc v).d = s.d := rfl
@[simp] theorem State.setBc_e (v : Word) : (s.setBc v).e = s.e := rfl
@[simp] theorem State.setBc_h (v : Word) : (s.setBc v).h = s.h := rfl
@[simp] theorem State.setBc_l (v : Word) : (s.setBc v).l = s.l := rfl
@[simp] theorem State.setBc_sp (v : Word) : (s.setBc v).sp = s.sp := rfl
@[simp] theorem State.setBc_pc (v : Word) : (s.setBc v).pc = s.pc := rfl
@[simp] theorem State.setBc_ime (v : Word) : (s.setBc v).ime = s.ime := rfl
@[simp] theorem State.setBc_halted (v : Word) : (s.setBc v).halted = s.halted := rfl
@[simp] theorem State.setBc_mem (v : Word) : (s.setBc v).mem = s.mem := rfl
@[simp] theorem State.setBc_attached (v : Word) : (s.setBc v).attached = s.attached := rfl
@[simp] theorem State.setBc_bus (v : Word) : (s.setBc v).bus = s.bus := rfl
@[simp] theorem State.setBc_cycles (v : Word) : (s.setBc v).cycles = s.cycles := rfl
@[simp] theorem State.setBc_cfg (v : Word) : (s.setBc v).cfg = s.cfg := rfl

/-! ### `State.setDe` -/

@[simp] theorem State.setDe_a (v : Word) : (s.setDe v).a = s.a := rfl
@[simp] theorem State.setDe_f (v : Word) : (s.setDe v).f = s.f := rfl
@[simp] theorem State.setDe_b (v : Word) : (s.setDe v).b = s.b := rfl
@[simp] theorem State.setDe_c (v : Word) : (s.setDe v).c = s.c := rfl
@[simp] theorem State.setDe_d (v : Word) : (s.setDe v).d = hiByte v := rfl
@[simp] theorem State.setDe_e (v : Word) : (s.setDe v).e = loByte v := rfl
@[simp] theorem State.setDe_h (v : Word) : (s.setDe v).h = s.h := rfl
@[simp] theorem State.setDe_l (v : Word) : (s.setDe v).l = s.l := rfl
@[simp] theorem State.setDe_sp (v : Word) : (s.setDe v).sp = s.sp := rfl
@[simp] theorem State.setDe_pc (v : Word) : (s.setDe v).pc = s.pc := rfl
@[simp] theorem State.setDe_ime (v : Word) : (s.setDe v).ime = s.ime := rfl
@[simp] theorem State.setDe_halted (v : Word) : (s.setDe v).halted = s.halted := rfl
@[simp] theorem State.setDe_mem (v : Word) : (s.setDe v).mem = s.mem := rfl
@[simp] theorem State.setDe_attached (v : Word) : (s.setDe v).attached = s.attached := rfl
@[simp] theorem State.setDe_bus (v : Word) : (s.setDe v).bus = s.bus := rfl
@[simp] theorem State.setDe_cycles (v : Word) : (s.setDe v).cycles = s.cycles := rfl
@[simp] theorem State.setDe_cfg (v : Word) : (s.setDe v).cfg = s.cfg := rfl

/-! ### `State.setHl` -/

@[simp] theorem State.setHl_a (v : Word) : (s.setHl v).a = s.a := rfl
@[simp] theorem State.setHl_f (v : Word) : (s.setHl v).f = s.f := rfl
@[simp] theorem State.setHl_b (v : Word) : (s.setHl v).b = s.b := rfl
@[simp] theorem State.setHl_c (v : Word) : (s.setHl v).c = s.c := rfl
@[simp] theorem State.setHl_d (v : Word) : (s.setHl v).d = s.d := rfl
@[simp] theorem State.setHl_e (v : Word) : (s.setHl v).e = s.e := rfl
@[simp] theorem State.setHl_h (v : Word) : (s.setHl v).h = hiByte v := rfl
@[simp] theorem State.setHl_l (v : Word) : (s.setHl v).l = loByte v := rfl
@[simp] theorem State.setHl_sp (v : Word) : (s.setHl v).sp = s.sp := rfl
@[simp] theorem State.setHl_pc (v : Word) : (s.setHl v).pc = s.pc := rfl
@[simp] theorem State.setHl_ime (v : Word) : (s.setHl v).ime = s.ime := rfl
@[simp] theorem State.setHl_halted (v : Word) : (s.setHl v).halted = s.halted := rfl
@[simp] theorem State.setHl_mem (v : Word) : (s.setHl v).mem = s.mem := rfl
@[simp] theorem State.setHl_attached (v : Word) : (s.setHl v).attached = s.attached := rfl
@[simp] theorem State.setHl_bus (v : Word) : (s.setHl v).bus = s.bus := rfl
@[simp] theorem State.setHl_cycles (v : Word) : (s.setHl v).cycles = s.cycles := rfl
@[simp] theorem State.setHl_cfg (v : Word) : (s.setHl v).cfg = s.cfg := rfl

/-! ### `memWrite8` -/

@[simp] theorem memWrite8_a (addr : Word) (v : Byte) : (memWrite8 addr v s).a = s.a := rfl
@[simp] theorem memWrite8_f (addr : Word) (v : Byte) : (memWrite8 addr v s).f = s.f := rfl
@[simp] theorem memWrite8_b (addr : Word) (v : Byte) : (memWrite8 addr v s).b = s.b := rfl
@[simp] theorem memWrite8_c (addr : Word) (v : Byte) : (memWrite8 addr v s).c = s.c := rfl
@[simp] theorem memWrite8_d (addr : Word) (v : Byte) : (memWrite8 addr v s).d = s.d := rfl
@[simp] theorem memWrite8_e (addr : Word) (v : Byte) : (memWrite8 addr v s).e = s.e := rfl
@[simp] theorem memWrite8_h (addr : Word) (v : Byte) : (memWrite8 addr v s).h = s.h := rfl
@[simp] theorem memWrite8_l (addr : Word) (v : Byte) : (memWrite8 addr v s).l = s.l := rfl
@[simp] theorem memWrite8_sp (addr : Word) (v : Byte) : (memWrite8 addr v s).sp = s.sp := rfl
@[simp] theorem memWrite8_pc (addr : Word) (v : Byte) : (memWrite8 addr v s).pc = s.pc := rfl
@[simp] theorem memWrite8_ime (addr : Word) (v : Byte) : (memWrite8 addr v s).ime = s.ime := rfl
@[simp] theorem memWrite8_halted (addr : Word) (v : Byte) : (memWrite8 addr v s).halted = s.halted := rfl
@[simp] theorem memWrite8_mem (addr : Word) (v : Byte) : (memWrite8 addr v s).mem = s.attached.store s.mem addr.toNat v := rfl
@[simp] theorem memWrite8_attached (addr : Word) (v : Byte) : (memWrite8 addr v s).attached = s.attached := rfl
@[simp] theorem memWrite8_bus (addr : Word) (v : Byte) : (memWrite8 addr v s).bus = s.bus ++ [.write addr v] := rfl
@[simp] theorem memWrite8_cycles (addr : Word) (v : Byte) : (memWrite8 addr v s).cycles = s.cycles := rfl
@[simp] theorem memWrite8_cfg (addr : Word) (v : Byte) : (memWrite8 addr v s).cfg = s.cfg := rfl

/-! ### `State.clearBus` -/

@[simp] theorem State.clearBus_a : (s.clearBus).a = s.a := rfl
@[simp] theorem State.clearBus_f : (s.clearBus).f = s.f := rfl
@[simp] theorem State.clearBus_b : (s.clearBus).b = s.b := rfl
@[simp] theorem State.clearBus_c : (s.clearBus).c = s.c := rfl
@[simp] theorem State.clearBus_d : (s.clearBus).d = s.d := rfl
@[simp] theorem State.clearBus_e : (s.clearBus).e = s.e := rfl
@[simp] theorem State.clearBus_h : (s.clearBus).h = s.h := rfl
@[simp] theorem State.clearBus_l : (s.clearBus).l = s.l := rfl
@[simp] theorem State.clearBus_sp : (s.clearBus).sp = s.sp := rfl
@[simp] theorem State.clearBus_pc : (s.clearBus).pc = s.pc := rfl
@[simp] theorem State.clearBus_ime : (s.clearBus).ime = s.ime := rfl
@[simp] theorem State.clearBus_halted : (s.clearBus).halted = s.halted := rfl
@[simp] theorem State.clearBus_mem : (s.clearBus).mem = s.mem := rfl
@[simp] theorem State.clearBus_attached : (s.clearBus).attached = s.attached := rfl
@[simp] theorem State.clearBus_bus : (s.clearBus).bus = [] := rfl
@[simp] theorem State.clearBus_cycles : (s.clearBus).cycles = s.cycles := rfl
@[simp] theorem State.clearBus_cfg : (s.clearBus).cfg = s.cfg := rfl

/-! ### `State.setFlags` -/

@[simp] theorem State.setFlags_f (fl : Flags) : (s.setFlags fl).f = fl.toByte := Flags.toByte_masked fl
@[simp] theorem State.setFlags_a (fl : Flags) : (s.setFlags fl).a = s.a := rfl
@[simp] theorem State.setFlags_b (fl : Flags) : (s.setFlags fl).b = s.b := rfl
@[simp] theorem State.setFlags_c (fl : Flags) : (s.setFlags fl).c = s.c := rfl
@[simp] theorem State.setFlags_d (fl : Flags) : (s.setFlags fl).d = s.d := rfl
@[simp] theorem State.setFlags_e (fl : Flags) : (s.setFlags fl).e = s.e := rfl
@[simp] theorem State.setFlags_h (fl : Flags) : (s.setFlags fl).h = s.h := rfl
@[simp] theorem State.setFlags_l (fl : Flags) : (s.setFlags fl).l = s.l := rfl
@[simp] theorem State.setFlags_sp (fl : Flags) : (s.setFlags fl).sp = s.sp := rfl
@[simp] theorem State.setFlags_pc (fl : Flags) : (s.setFlags fl).pc = s.pc := rfl
@[simp] theorem State.setFlags_ime (fl : Flags) : (s.setFlags fl).ime = s.ime := rfl
@[simp] theorem State.setFlags_halted (fl : Flags) : (s.setFlags fl).halted = s.halted := rfl
@[simp] theorem State.setFlags_mem (fl : Flags) : (s.setFlags fl).mem = s.mem := rfl
@[simp] theorem State.setFlags_attached (fl : Flags) : (s.setFlags fl).attached = s.attached := rfl
@[simp] theorem State.setFlags_bus (fl : Flags) : (s.setFlags fl).bus = s.bus := rfl
@[simp] theorem State.setFlags_cycles (fl : Flags) : (s.setFlags fl).cycles = s.cycles := rfl
@[simp] theorem State.setFlags_cfg (fl : Flags) : (s.setFlags fl).cfg = s.cfg := rfl

@[simp] theorem State.flags_setFlags (fl : Flags) : (s.setFlags fl).flags = fl := by
  simp [State.flags]

/-! ### `State.setReg` -/

@[simp] theorem State.reg_setReg_same (r : Reg8) (v : Byte) : (s.setReg r v).reg r = v := by cases r <;> rfl

theorem State.reg_setReg_other (r q : Reg8) (v : Byte) (h : q ≠ r) : (s.setReg r v).reg q = s.reg q := by
  cases r <;> cases q <;> first | rfl | exact absurd rfl h

@[simp] theorem State.setReg_sp (r : Reg8) (v : Byte) : (s.setReg r v).sp = s.sp := by cases r <;> rfl
@[simp] theorem State.setReg_pc (r : Reg8) (v : Byte) : (s.setReg r v).pc = s.pc := by cases r <;> rfl
@[simp] theorem State.setReg_ime (r : Reg8) (v : Byte) : (s.setReg r v).ime = s.ime := by cases r <;> rfl
@[simp] theorem State.setReg_halted (r : Reg8) (v : Byte) : (s.setReg r v).halted = s.halted := by cases r <;> rfl
@[simp] theorem State.setReg_mem (r : Reg8) (v : Byte) : (s.setReg r v).mem = s.mem := by cases r <;> rfl
@[simp] theorem State.setReg_attached (r : Reg8) (v : Byte) : (s.setReg r v).attached = s.attached := by cases r <;> rfl
@[simp] theorem State.setReg_bus (r : Reg8) (v : Byte) : (s.setReg r v).bus = s.bus := by cases r <;> rfl
@[simp] theorem State.setReg_cycles (r : Reg8) (v : Byte) : (s.setReg r v).cycles = s.cycles := by cases r <;> rfl
@[simp] theorem State.setReg_cfg (r : Reg8) (v : Byte) : (s.setReg r v).cfg = s.cfg := by cases r <;> rfl
@[simp] theorem State.setReg_f (r : Reg8) (v : Byte) : (s.setReg r v).f = s.f := by cases r <;> rfl

/-! ### The pair views (R22) -/

@[simp] theorem State.bc_setBc (v : Word) : (s.setBc v).bc = v := wordOf_hi_lo v
@[simp] theorem State.de_setDe (v : Word) : (s.setDe v).de = v := wordOf_hi_lo v
@[simp] theorem State.hl_setHl (v : Word) : (s.setHl v).hl = v := wordOf_hi_lo v

@[simp] theorem State.pair_setPair (p : Pair) (v : Word) : (s.setPair p v).pair p = v := by
  cases p <;> first | exact wordOf_hi_lo v | rfl

/-! ### Reading a byte -/

/-- What a read answers depends on the bus and the memory alone. -/
theorem State.byteAfter_congr {s t : State} (hb : t.attached = s.attached) (hm : t.mem = s.mem) (k : Nat) (x : Word) :
    t.byteAfter k x = s.byteAfter k x := by
  unfold State.byteAfter State.ram; rw [hb, hm]

theorem State.byteAt_congr {s t : State} (hb : t.attached = s.attached) (hm : t.mem = s.mem) (x : Word) :
    t.byteAt x = s.byteAt x := State.byteAfter_congr hb hm 0 x

theorem State.ram_congr {s t : State} (hm : t.mem = s.mem) (x : Word) : t.ram x = s.ram x := by
  unfold State.ram; rw [hm]

end Sys2Proof.Machine
end

