-- ==== Sys2Proof/Laws/Ops.lean ====
section
/-! SUPPORT. One lemma for each shared operation over memory and the control registers, saying all it can do, and the
reads of memory after each write. The provers cite these instead of unfolding the operations. -/

namespace Sys2Proof.Machine

variable (s : State)

/-- The flat memory after a byte write, at any address: only the default bus stores there (R51, R53). -/
@[simp] theorem ram_memWrite8 (addr x : Word) (v : Byte) :
    (memWrite8 addr v s).ram x = if x = addr ∧ s.attached = .flat then v else s.ram x := by
  show Memory.read (s.attached.store s.mem addr.toNat v) x.toNat = _
  rw [Bus.read_store]
  simp only [BitVec.toNat_inj]
  rfl

/-- A read after a read: the bus has answered once more. -/
@[simp] theorem byteAfter_afterRead (addr x : Word) (k : Nat) :
    (s.afterRead addr).byteAfter k x = s.byteAfter (1 + k) x := Bus.answer_skip _ 1 k _

theorem byteAt_afterRead (addr x : Word) : (s.afterRead addr).byteAt x = s.byteAfter 1 x :=
  byteAfter_afterRead s addr x 0

/-- With the flat memory behind the bus a read answers what it holds (R51). -/
theorem byteAfter_flat (h : s.attached = .flat) (k : Nat) (x : Word) : s.byteAfter k x = s.ram x := by
  unfold State.byteAfter; rw [h]; rfl

/-- The two addresses of a word differ. -/
theorem addr_succ_ne (addr : Word) : addr + 1 ≠ addr := by
  intro h
  have := congrArg BitVec.toNat h
  have hlt := addr.isLt
  simp [BitVec.toNat_add] at this
  omega

theorem memRead16_eq (addr : Word) :
    memRead16 addr s = (wordOf (s.byteAfter 1 (addr + 1)) (s.byteAt addr),
      { s with
        attached := s.attached.skip 2
        bus := s.bus ++ [.read addr (s.byteAt addr), .read (addr + 1) (s.byteAfter 1 (addr + 1))] }) := by
  simp only [memRead16, memRead8, byteAt_afterRead]
  simp [State.afterRead, State.byteAt, State.byteAfter, State.ram]

theorem memWrite16_eq (addr v : Word) :
    memWrite16 addr v s = { s with
      mem := s.attached.store (s.attached.store s.mem addr.toNat (loByte v)) (addr + 1).toNat (hiByte v)
      bus := s.bus ++ [.write addr (loByte v), .write (addr + 1) (hiByte v)] } := by
  simp [memWrite16, memWrite8]

/-- The flat memory after a word write: the two bytes of the word, every other byte as before (R57). -/
theorem ram_memWrite16 (addr v x : Word) :
    (memWrite16 addr v s).ram x =
      if s.attached = .flat then if x = addr then loByte v else if x = addr + 1 then hiByte v else s.ram x
      else s.ram x := by
  simp only [memWrite16, ram_memWrite8, memWrite8_attached]
  by_cases hb : s.attached = .flat
  · by_cases h : x = addr
    · subst h; simp [hb]
    · simp [hb, h]
  · simp [hb]

theorem fetch8_eq :
    fetch8 s = (s.byteAt s.pc, { s with
      pc := s.pc + 1, attached := s.attached.skip 1, bus := s.bus ++ [.read s.pc (s.byteAt s.pc)] }) := rfl

theorem fetch16_eq :
    fetch16 s = (wordOf (s.byteAfter 1 (s.pc + 1)) (s.byteAt s.pc),
      { s with
        pc := s.pc + 1 + 1
        attached := s.attached.skip 2
        bus := s.bus ++ [.read s.pc (s.byteAt s.pc), .read (s.pc + 1) (s.byteAfter 1 (s.pc + 1))] }) := by
  simp [fetch16, fetch8, memRead8, State.afterRead, State.setPc, State.byteAt, State.byteAfter, State.ram]

/-- SP - 2 + 1 is SP - 1. -/
theorem sp_sub_two_succ (sp : Word) : sp - 2 + 1 = sp - 1 := by
  apply BitVec.eq_of_toNat_eq
  have := sp.isLt
  simp [BitVec.toNat_add, BitVec.toNat_sub]
  omega

theorem push16_eq (v : Word) :
    push16 v s = { s with
      sp := s.sp - 2
      mem := s.attached.store (s.attached.store s.mem (s.sp - 2).toNat (loByte v)) (s.sp - 1).toNat (hiByte v)
      bus := s.bus ++ [.write (s.sp - 2) (loByte v), .write (s.sp - 1) (hiByte v)] } := by
  simp only [push16, memWrite16_eq, State.setSp, sp_sub_two_succ]

/-- The flat memory after a push (R225). -/
theorem ram_push16 (v x : Word) :
    (push16 v s).ram x =
      if s.attached = .flat then if x = s.sp - 2 then loByte v else if x = s.sp - 1 then hiByte v else s.ram x
      else s.ram x := by
  unfold push16
  rw [ram_memWrite16, sp_sub_two_succ]
  rfl

theorem pop16_eq :
    pop16 s = (wordOf (s.byteAfter 1 (s.sp + 1)) (s.byteAt s.sp),
      { s with
        sp := s.sp + 2
        attached := s.attached.skip 2
        bus := s.bus ++ [.read s.sp (s.byteAt s.sp), .read (s.sp + 1) (s.byteAfter 1 (s.sp + 1))] }) := by
  simp only [pop16, memRead16_eq, State.setSp]

theorem intEntry_eq (v : IntVector) :
    intEntry v s = if s.ime then
      some ((push16 s.pc { s with halted := false, ime := false, bus := [], cycles := cycleCost s.cfg .intEntry }).setPc
        v.address)
      else none := rfl

theorem readOperand_eq (o : Operand8) :
    readOperand o s = match o with
      | .reg r => (s.reg r, s)
      | .atHl => (s.byteAt s.hl, s.afterRead s.hl) := by
  cases o <;> rfl

/-! The legal states are kept (R25 and the canonical memory). -/

variable {s}

theorem memWrite8_inv (addr : Word) (v : Byte) (h : s.Inv) : (memWrite8 addr v s).Inv :=
  ⟨h.1, Bus.store_wf _ _ _ _ addr.isLt h.2⟩

theorem memWrite16_inv (addr v : Word) (h : s.Inv) : (memWrite16 addr v s).Inv :=
  memWrite8_inv _ _ (memWrite8_inv _ _ h)

theorem push16_inv (v : Word) (h : s.Inv) : (push16 v s).Inv := memWrite16_inv _ _ h

theorem pop16_inv (h : s.Inv) : (pop16 s).2.Inv := h

theorem fetch8_inv (h : s.Inv) : (fetch8 s).2.Inv := h

theorem fetch16_inv (h : s.Inv) : (fetch16 s).2.Inv := fetch8_inv (fetch8_inv h)

theorem setFlags_inv (fl : Flags) (h : s.Inv) : (s.setFlags fl).Inv := ⟨flagMask_low _, h.2⟩

theorem setReg_inv (r : Reg8) (v : Byte) (h : s.Inv) : (s.setReg r v).Inv := by cases r <;> exact h

theorem setPair_inv (p : Pair) (v : Word) (h : s.Inv) : (s.setPair p v).Inv := by cases p <;> exact h

theorem setStackPair_inv (p : StackPair) (v : Word) (h : s.Inv) : (s.setStackPair p v).Inv := by
  cases p
  case af => exact ⟨flagMask_low _, h.2⟩
  all_goals exact h

theorem readOperand_inv (o : Operand8) (h : s.Inv) : (readOperand o s).2.Inv := by cases o <;> exact h

theorem writeOperand_inv (o : Operand8) (v : Byte) (h : s.Inv) : (writeOperand o v s).Inv := by
  cases o
  case reg r => exact setReg_inv r v h
  case atHl => exact memWrite8_inv _ v h

theorem indirect_inv (p : MemPair) (h : s.Inv) : (indirect p s).2.Inv := by cases p <;> exact h

theorem fetchInstr_inv (h : s.Inv) : (fetchInstr s).2.Inv := by
  unfold fetchInstr
  dsimp only
  generalize primaryEntry (fetch8 s).1 = e
  cases e
  case plain i => exact fetch8_inv h
  case imm8 k => exact fetch8_inv (fetch8_inv h)
  case imm16 k => exact fetch16_inv (fetch8_inv h)
  case cbTable => exact fetch8_inv (fetch8_inv h)

theorem intEntry_inv (v : IntVector) {t : State} (h : s.Inv) (ht : intEntry v s = some t) : t.Inv := by
  rw [intEntry_eq] at ht
  split at ht
  · cases ht
    exact push16_inv _ (s := { s with halted := false, ime := false, bus := [], cycles := cycleCost s.cfg .intEntry }) h
  · cases ht

/-! The parameters are kept (R7): no operation changes the configuration, and the bus only answers further reads. -/

theorem State.SameParams.refl (s : State) : s.SameParams s := ⟨rfl, 0, (Bus.skip_zero _).symm⟩

theorem State.SameParams.trans {s t u : State} (h : s.SameParams t) (k : t.SameParams u) : s.SameParams u := by
  obtain ⟨hc, m, hm⟩ := h
  obtain ⟨kc, n, kn⟩ := k
  exact ⟨kc.trans hc, m + n, by rw [kn, hm, Bus.skip_skip]⟩

/-- A state that differs in neither parameter. -/
theorem State.SameParams.of_eq {s t : State} (hc : t.cfg = s.cfg) (hb : t.attached = s.attached) : s.SameParams t :=
  ⟨hc, 0, by rw [hb, Bus.skip_zero]⟩

theorem afterRead_params (addr : Word) : s.SameParams (s.afterRead addr) := ⟨rfl, 1, rfl⟩

theorem memWrite8_params (addr : Word) (v : Byte) : s.SameParams (memWrite8 addr v s) := .of_eq rfl rfl

theorem fetch8_params : s.SameParams (fetch8 s).2 := ⟨rfl, 1, rfl⟩

theorem fetch16_params : s.SameParams (fetch16 s).2 := by rw [fetch16_eq]; exact ⟨rfl, 2, rfl⟩

theorem push16_params (v : Word) : s.SameParams (push16 v s) := .of_eq rfl rfl

theorem pop16_params : s.SameParams (pop16 s).2 := by rw [pop16_eq]; exact ⟨rfl, 2, rfl⟩

theorem setFlags_params (fl : Flags) : s.SameParams (s.setFlags fl) := .of_eq rfl rfl

theorem setReg_params (r : Reg8) (v : Byte) : s.SameParams (s.setReg r v) := by cases r <;> exact .of_eq rfl rfl

theorem setPair_params (p : Pair) (v : Word) : s.SameParams (s.setPair p v) := by cases p <;> exact .of_eq rfl rfl

theorem setStackPair_params (p : StackPair) (v : Word) : s.SameParams (s.setStackPair p v) := by
  cases p <;> exact .of_eq rfl rfl

theorem readOperand_params (o : Operand8) : s.SameParams (readOperand o s).2 := by
  cases o
  case reg r => exact .refl s
  case atHl => exact afterRead_params _

theorem writeOperand_params (o : Operand8) (v : Byte) : s.SameParams (writeOperand o v s) := by
  cases o
  case reg r => exact setReg_params r v
  case atHl => exact memWrite8_params _ v

theorem indirect_params (p : MemPair) : s.SameParams (indirect p s).2 := by cases p <;> exact .of_eq rfl rfl

theorem fetchInstr_params : s.SameParams (fetchInstr s).2 := by
  unfold fetchInstr
  dsimp only
  generalize primaryEntry (fetch8 s).1 = e
  cases e
  case plain i => exact fetch8_params
  case imm8 k => exact fetch8_params.trans fetch8_params
  case imm16 k => exact fetch8_params.trans fetch16_params
  case cbTable => exact fetch8_params.trans fetch8_params

end Sys2Proof.Machine
end

