-- ==== Sys2Proof/Laws/Meanings.lean ====
section
/-! SUPPORT. For each shared meaning: the state it answers is legal if the state before was, and has the same
parameters. With `Instr.byBlock` and the lemmas of Laws/Dispatch these cover every constructor. -/

namespace Sys2Proof.Machine

variable {s t : State}

theorem aluWith_inv (op : AluOp) (x : Byte) (h : s.Inv) : (aluWith op x s).Inv := by
  cases op
  case cp => exact setFlags_inv _ h
  all_goals exact setFlags_inv _ (setReg_inv .a _ h)

theorem aluWith_params (op : AluOp) (x : Byte) : s.SameParams (aluWith op x s) := by
  cases op <;> exact .of_eq rfl rfl

theorem aluOn_legal (op : AluOp) (o : Operand8) (h : s.Inv) (ht : aluOn op o s = .next t) : t.Inv ∧ s.SameParams t := by
  cases ht
  exact ⟨aluWith_inv _ _ (readOperand_inv o h), (readOperand_params o).trans (aluWith_params _ _)⟩

theorem aluImm_legal (op : AluOp) (n : Byte) (h : s.Inv) (ht : aluImm op n s = .next t) : t.Inv ∧ s.SameParams t := by
  cases ht
  exact ⟨aluWith_inv _ _ h, aluWith_params _ _⟩

theorem incOn_legal (o : Operand8) (h : s.Inv) (ht : incOn o s = .next t) : t.Inv ∧ s.SameParams t := by
  cases ht
  exact ⟨setFlags_inv _ (writeOperand_inv o _ (readOperand_inv o h)), ((readOperand_params o).trans (writeOperand_params o _)).trans (setFlags_params _)⟩

theorem decOn_legal (o : Operand8) (h : s.Inv) (ht : decOn o s = .next t) : t.Inv ∧ s.SameParams t := by
  cases ht
  exact ⟨setFlags_inv _ (writeOperand_inv o _ (readOperand_inv o h)), ((readOperand_params o).trans (writeOperand_params o _)).trans (setFlags_params _)⟩

theorem daaOn_legal (h : s.Inv) (ht : daaOn s = .next t) : t.Inv ∧ s.SameParams t := by
  cases ht
  exact ⟨setFlags_inv _ (setReg_inv .a _ h), .of_eq rfl rfl⟩

theorem addHlOn_legal (p : Pair) (h : s.Inv) (ht : addHlOn p s = .next t) : t.Inv ∧ s.SameParams t := by
  cases ht
  exact ⟨setFlags_inv _ h, .of_eq rfl rfl⟩

theorem incPairOn_legal (p : Pair) (h : s.Inv) (ht : incPairOn p s = .next t) : t.Inv ∧ s.SameParams t := by
  cases ht
  exact ⟨setPair_inv p _ h, setPair_params p _⟩

theorem decPairOn_legal (p : Pair) (h : s.Inv) (ht : decPairOn p s = .next t) : t.Inv ∧ s.SameParams t := by
  cases ht
  exact ⟨setPair_inv p _ h, setPair_params p _⟩

theorem addSpOn_legal (n : Byte) (h : s.Inv) (ht : addSpOn n s = .next t) : t.Inv ∧ s.SameParams t := by
  cases ht
  exact ⟨setFlags_inv _ h, .of_eq rfl rfl⟩

theorem ldHlSp_legal (n : Byte) (h : s.Inv) (ht : ldHlSp n s = .next t) : t.Inv ∧ s.SameParams t := by
  cases ht
  exact ⟨setFlags_inv _ h, .of_eq rfl rfl⟩

theorem rotateA_legal (op : ShiftOp) (h : s.Inv) (ht : rotateA op s = .next t) : t.Inv ∧ s.SameParams t := by
  cases ht
  exact ⟨setFlags_inv _ (setReg_inv .a _ h), .of_eq rfl rfl⟩

theorem shiftOn_legal (op : ShiftOp) (o : Operand8) (h : s.Inv) (ht : shiftOn op o s = .next t) : t.Inv ∧ s.SameParams t := by
  cases ht
  exact ⟨setFlags_inv _ (writeOperand_inv o _ (readOperand_inv o h)), ((readOperand_params o).trans (writeOperand_params o _)).trans (setFlags_params _)⟩

theorem testBit_legal (i : Fin 8) (o : Operand8) (h : s.Inv) (ht : testBit i o s = .next t) : t.Inv ∧ s.SameParams t := by
  cases ht
  exact ⟨setFlags_inv _ (readOperand_inv o h), (readOperand_params o).trans (setFlags_params _)⟩

theorem resetBit_legal (i : Fin 8) (o : Operand8) (h : s.Inv) (ht : resetBit i o s = .next t) : t.Inv ∧ s.SameParams t := by
  cases ht
  exact ⟨writeOperand_inv o _ (readOperand_inv o h), (readOperand_params o).trans (writeOperand_params o _)⟩

theorem setBit_legal (i : Fin 8) (o : Operand8) (h : s.Inv) (ht : setBit i o s = .next t) : t.Inv ∧ s.SameParams t := by
  cases ht
  exact ⟨writeOperand_inv o _ (readOperand_inv o h), (readOperand_params o).trans (writeOperand_params o _)⟩

theorem ldOn_legal (dst src : Operand8) (h : s.Inv) (ht : ldOn dst src s = .next t) : t.Inv ∧ s.SameParams t := by
  cases ht
  exact ⟨writeOperand_inv dst _ (readOperand_inv src h), (readOperand_params src).trans (writeOperand_params dst _)⟩

theorem ldImmOn_legal (dst : Operand8) (n : Byte) (h : s.Inv) (ht : ldImmOn dst n s = .next t) : t.Inv ∧ s.SameParams t := by
  cases ht
  exact ⟨writeOperand_inv dst _ h, writeOperand_params dst _⟩

theorem storeAVia_legal (p : MemPair) (h : s.Inv) (ht : storeAVia p s = .next t) : t.Inv ∧ s.SameParams t := by
  cases ht
  exact ⟨memWrite8_inv _ _ (indirect_inv p h), (indirect_params p).trans (memWrite8_params _ _)⟩

theorem loadAVia_legal (p : MemPair) (h : s.Inv) (ht : loadAVia p s = .next t) : t.Inv ∧ s.SameParams t := by
  cases ht
  exact ⟨setReg_inv .a _ (indirect_inv p h), ((indirect_params p).trans (afterRead_params _)).trans (setReg_params .a _)⟩

theorem storeAAt_legal (addr : Word) (h : s.Inv) (ht : storeAAt addr s = .next t) : t.Inv ∧ s.SameParams t := by
  cases ht
  exact ⟨memWrite8_inv _ _ h, memWrite8_params _ _⟩

theorem loadAAt_legal (addr : Word) (h : s.Inv) (ht : loadAAt addr s = .next t) : t.Inv ∧ s.SameParams t := by
  cases ht
  exact ⟨setReg_inv .a _ h, (afterRead_params _).trans (setReg_params .a _)⟩

theorem pushPair_legal (p : StackPair) (h : s.Inv) (ht : pushPair p s = .next t) : t.Inv ∧ s.SameParams t := by
  cases ht
  exact ⟨push16_inv _ h, push16_params _⟩

theorem popPair_legal (p : StackPair) (h : s.Inv) (ht : popPair p s = .next t) : t.Inv ∧ s.SameParams t := by
  cases ht
  exact ⟨setStackPair_inv p _ (pop16_inv h), pop16_params.trans (setStackPair_params p _)⟩

theorem jrIf_legal (taken : Bool) (n : Byte) (h : s.Inv) (ht : jrIf taken n s = .next t) : t.Inv ∧ s.SameParams t := by
  cases ht
  cases taken
  · exact ⟨h, .refl s⟩
  · exact ⟨h, .of_eq rfl rfl⟩

theorem jpIf_legal (taken : Bool) (nn : Word) (h : s.Inv) (ht : jpIf taken nn s = .next t) : t.Inv ∧ s.SameParams t := by
  cases ht
  cases taken
  · exact ⟨h, .refl s⟩
  · exact ⟨h, .of_eq rfl rfl⟩

theorem callIf_legal (taken : Bool) (nn : Word) (h : s.Inv) (ht : callIf taken nn s = .next t) : t.Inv ∧ s.SameParams t := by
  cases ht
  cases taken
  · exact ⟨h, .refl s⟩
  · exact ⟨push16_inv _ h, (push16_params s.pc).trans (.of_eq rfl rfl)⟩

theorem retIf_legal (taken : Bool) (h : s.Inv) (ht : retIf taken s = .next t) : t.Inv ∧ s.SameParams t := by
  cases ht
  cases taken
  · exact ⟨h, .refl s⟩
  · exact ⟨h, pop16_params.trans (.of_eq rfl rfl)⟩

theorem restart_legal (i : Fin 8) (h : s.Inv) (ht : restart i s = .next t) : t.Inv ∧ s.SameParams t := by
  cases ht
  exact ⟨push16_inv _ h, (push16_params s.pc).trans (.of_eq rfl rfl)⟩

theorem execStop_legal (h : s.Inv) (ht : execStop s = .next t) : t.Inv ∧ s.SameParams t := by
  unfold execStop at ht
  split at ht
  · cases ht
  · cases ht; exact ⟨h, .refl s⟩
  · cases ht; exact ⟨fetch8_inv h, fetch8_params⟩
  · cases ht; exact ⟨h, .of_eq rfl rfl⟩

theorem cbTableRun_legal (op : Byte) (h : s.Inv) (ht : cbTableRun op s = .next t) : t.Inv ∧ s.SameParams t := by
  unfold cbTableRun at ht
  dsimp only at ht
  split at ht
  · exact shiftOn_legal _ _ h ht
  · exact testBit_legal _ _ h ht
  · exact resetBit_legal _ _ h ht
  · exact setBit_legal _ _ h ht

end Sys2Proof.Machine
end

