-- ==== Sys2Proof/Laws/PerInstr.lean ====
section
/-! SUPPORT. Facts about every instruction as syntax, one lemma per constructor. -/

/-- The bytes an instruction is encoded in start with a byte whose table entry gives their number (R85, R96); the prefix
byte alone lacks its table byte (R258). -/
def Sys2Proof.Laws.EncodedLength.Statement (i : Sys2Proof.Instr) : Prop :=
  Sys2Proof.lengthOf ((Sys2Proof.encode i).headD 0#8) = if i.prefixAlone then 2 else (Sys2Proof.encode i).length

namespace Sys2Proof.Laws.EncodedLength

theorem ldBCImm (nn : Word) : Statement (.ldBCImm nn) := (rfl : Sys2Proof.lengthOf 0x01#8 = 3)
theorem ldBImm (n : Byte) : Statement (.ldBImm n) := (rfl : Sys2Proof.lengthOf 0x06#8 = 2)
theorem ldAtImmSP (nn : Word) : Statement (.ldAtImmSP nn) := (rfl : Sys2Proof.lengthOf 0x08#8 = 3)
theorem ldCImm (n : Byte) : Statement (.ldCImm n) := (rfl : Sys2Proof.lengthOf 0x0E#8 = 2)
theorem ldDEImm (nn : Word) : Statement (.ldDEImm nn) := (rfl : Sys2Proof.lengthOf 0x11#8 = 3)
theorem ldDImm (n : Byte) : Statement (.ldDImm n) := (rfl : Sys2Proof.lengthOf 0x16#8 = 2)
theorem jr (n : Byte) : Statement (.jr n) := (rfl : Sys2Proof.lengthOf 0x18#8 = 2)
theorem ldEImm (n : Byte) : Statement (.ldEImm n) := (rfl : Sys2Proof.lengthOf 0x1E#8 = 2)
theorem jrNZ (n : Byte) : Statement (.jrNZ n) := (rfl : Sys2Proof.lengthOf 0x20#8 = 2)
theorem ldHLImm (nn : Word) : Statement (.ldHLImm nn) := (rfl : Sys2Proof.lengthOf 0x21#8 = 3)
theorem ldHImm (n : Byte) : Statement (.ldHImm n) := (rfl : Sys2Proof.lengthOf 0x26#8 = 2)
theorem jrZ (n : Byte) : Statement (.jrZ n) := (rfl : Sys2Proof.lengthOf 0x28#8 = 2)
theorem ldLImm (n : Byte) : Statement (.ldLImm n) := (rfl : Sys2Proof.lengthOf 0x2E#8 = 2)
theorem jrNC (n : Byte) : Statement (.jrNC n) := (rfl : Sys2Proof.lengthOf 0x30#8 = 2)
theorem ldSPImm (nn : Word) : Statement (.ldSPImm nn) := (rfl : Sys2Proof.lengthOf 0x31#8 = 3)
theorem ldAtHLImm (n : Byte) : Statement (.ldAtHLImm n) := (rfl : Sys2Proof.lengthOf 0x36#8 = 2)
theorem jrC (n : Byte) : Statement (.jrC n) := (rfl : Sys2Proof.lengthOf 0x38#8 = 2)
theorem ldAImm (n : Byte) : Statement (.ldAImm n) := (rfl : Sys2Proof.lengthOf 0x3E#8 = 2)
theorem jpNZ (nn : Word) : Statement (.jpNZ nn) := (rfl : Sys2Proof.lengthOf 0xC2#8 = 3)
theorem jp (nn : Word) : Statement (.jp nn) := (rfl : Sys2Proof.lengthOf 0xC3#8 = 3)
theorem callNZ (nn : Word) : Statement (.callNZ nn) := (rfl : Sys2Proof.lengthOf 0xC4#8 = 3)
theorem addAImm (n : Byte) : Statement (.addAImm n) := (rfl : Sys2Proof.lengthOf 0xC6#8 = 2)
theorem jpZ (nn : Word) : Statement (.jpZ nn) := (rfl : Sys2Proof.lengthOf 0xCA#8 = 3)
theorem callZ (nn : Word) : Statement (.callZ nn) := (rfl : Sys2Proof.lengthOf 0xCC#8 = 3)
theorem call (nn : Word) : Statement (.call nn) := (rfl : Sys2Proof.lengthOf 0xCD#8 = 3)
theorem adcAImm (n : Byte) : Statement (.adcAImm n) := (rfl : Sys2Proof.lengthOf 0xCE#8 = 2)
theorem jpNC (nn : Word) : Statement (.jpNC nn) := (rfl : Sys2Proof.lengthOf 0xD2#8 = 3)
theorem callNC (nn : Word) : Statement (.callNC nn) := (rfl : Sys2Proof.lengthOf 0xD4#8 = 3)
theorem subImm (n : Byte) : Statement (.subImm n) := (rfl : Sys2Proof.lengthOf 0xD6#8 = 2)
theorem jpC (nn : Word) : Statement (.jpC nn) := (rfl : Sys2Proof.lengthOf 0xDA#8 = 3)
theorem callC (nn : Word) : Statement (.callC nn) := (rfl : Sys2Proof.lengthOf 0xDC#8 = 3)
theorem sbcAImm (n : Byte) : Statement (.sbcAImm n) := (rfl : Sys2Proof.lengthOf 0xDE#8 = 2)
theorem ldhAtImmA (n : Byte) : Statement (.ldhAtImmA n) := (rfl : Sys2Proof.lengthOf 0xE0#8 = 2)
theorem andImm (n : Byte) : Statement (.andImm n) := (rfl : Sys2Proof.lengthOf 0xE6#8 = 2)
theorem addSPImm (n : Byte) : Statement (.addSPImm n) := (rfl : Sys2Proof.lengthOf 0xE8#8 = 2)
theorem ldAtImmA (nn : Word) : Statement (.ldAtImmA nn) := (rfl : Sys2Proof.lengthOf 0xEA#8 = 3)
theorem xorImm (n : Byte) : Statement (.xorImm n) := (rfl : Sys2Proof.lengthOf 0xEE#8 = 2)
theorem ldhAAtImm (n : Byte) : Statement (.ldhAAtImm n) := (rfl : Sys2Proof.lengthOf 0xF0#8 = 2)
theorem orImm (n : Byte) : Statement (.orImm n) := (rfl : Sys2Proof.lengthOf 0xF6#8 = 2)
theorem ldHLSPImm (n : Byte) : Statement (.ldHLSPImm n) := (rfl : Sys2Proof.lengthOf 0xF8#8 = 2)
theorem ldAAtImm (nn : Word) : Statement (.ldAAtImm nn) := (rfl : Sys2Proof.lengthOf 0xFA#8 = 3)
theorem cpImm (n : Byte) : Statement (.cpImm n) := (rfl : Sys2Proof.lengthOf 0xFE#8 = 2)
theorem nop : Statement .nop := by unfold Statement; rfl
theorem ldAtBCA : Statement .ldAtBCA := by unfold Statement; rfl
theorem incBC : Statement .incBC := by unfold Statement; rfl
theorem incB : Statement .incB := by unfold Statement; rfl
theorem decB : Statement .decB := by unfold Statement; rfl
theorem rlca : Statement .rlca := by unfold Statement; rfl
theorem addHLBC : Statement .addHLBC := by unfold Statement; rfl
theorem ldAAtBC : Statement .ldAAtBC := by unfold Statement; rfl
theorem decBC : Statement .decBC := by unfold Statement; rfl
theorem incC : Statement .incC := by unfold Statement; rfl
theorem decC : Statement .decC := by unfold Statement; rfl
theorem rrca : Statement .rrca := by unfold Statement; rfl
theorem stop : Statement .stop := by unfold Statement; rfl
theorem ldAtDEA : Statement .ldAtDEA := by unfold Statement; rfl
theorem incDE : Statement .incDE := by unfold Statement; rfl
theorem incD : Statement .incD := by unfold Statement; rfl
theorem decD : Statement .decD := by unfold Statement; rfl
theorem rla : Statement .rla := by unfold Statement; rfl
theorem addHLDE : Statement .addHLDE := by unfold Statement; rfl
theorem ldAAtDE : Statement .ldAAtDE := by unfold Statement; rfl
theorem decDE : Statement .decDE := by unfold Statement; rfl
theorem incE : Statement .incE := by unfold Statement; rfl
theorem decE : Statement .decE := by unfold Statement; rfl
theorem rra : Statement .rra := by unfold Statement; rfl
theorem ldAtHLIncA : Statement .ldAtHLIncA := by unfold Statement; rfl
theorem incHL : Statement .incHL := by unfold Statement; rfl
theorem incH : Statement .incH := by unfold Statement; rfl
theorem decH : Statement .decH := by unfold Statement; rfl
theorem daa : Statement .daa := by unfold Statement; rfl
theorem addHLHL : Statement .addHLHL := by unfold Statement; rfl
theorem ldAAtHLInc : Statement .ldAAtHLInc := by unfold Statement; rfl
theorem decHL : Statement .decHL := by unfold Statement; rfl
theorem incL : Statement .incL := by unfold Statement; rfl
theorem decL : Statement .decL := by unfold Statement; rfl
theorem cpl : Statement .cpl := by unfold Statement; rfl
theorem ldAtHLDecA : Statement .ldAtHLDecA := by unfold Statement; rfl
theorem incSP : Statement .incSP := by unfold Statement; rfl
theorem incAtHL : Statement .incAtHL := by unfold Statement; rfl
theorem decAtHL : Statement .decAtHL := by unfold Statement; rfl
theorem scf : Statement .scf := by unfold Statement; rfl
theorem addHLSP : Statement .addHLSP := by unfold Statement; rfl
theorem ldAAtHLDec : Statement .ldAAtHLDec := by unfold Statement; rfl
theorem decSP : Statement .decSP := by unfold Statement; rfl
theorem incA : Statement .incA := by unfold Statement; rfl
theorem decA : Statement .decA := by unfold Statement; rfl
theorem ccf : Statement .ccf := by unfold Statement; rfl
theorem ldBB : Statement .ldBB := by unfold Statement; rfl
theorem ldBC : Statement .ldBC := by unfold Statement; rfl
theorem ldBD : Statement .ldBD := by unfold Statement; rfl
theorem ldBE : Statement .ldBE := by unfold Statement; rfl
theorem ldBH : Statement .ldBH := by unfold Statement; rfl
theorem ldBL : Statement .ldBL := by unfold Statement; rfl
theorem ldBAtHL : Statement .ldBAtHL := by unfold Statement; rfl
theorem ldBA : Statement .ldBA := by unfold Statement; rfl
theorem ldCB : Statement .ldCB := by unfold Statement; rfl
theorem ldCC : Statement .ldCC := by unfold Statement; rfl
theorem ldCD : Statement .ldCD := by unfold Statement; rfl
theorem ldCE : Statement .ldCE := by unfold Statement; rfl
theorem ldCH : Statement .ldCH := by unfold Statement; rfl
theorem ldCL : Statement .ldCL := by unfold Statement; rfl
theorem ldCAtHL : Statement .ldCAtHL := by unfold Statement; rfl
theorem ldCA : Statement .ldCA := by unfold Statement; rfl
theorem ldDB : Statement .ldDB := by unfold Statement; rfl
theorem ldDC : Statement .ldDC := by unfold Statement; rfl
theorem ldDD : Statement .ldDD := by unfold Statement; rfl
theorem ldDE : Statement .ldDE := by unfold Statement; rfl
theorem ldDH : Statement .ldDH := by unfold Statement; rfl
theorem ldDL : Statement .ldDL := by unfold Statement; rfl
theorem ldDAtHL : Statement .ldDAtHL := by unfold Statement; rfl
theorem ldDA : Statement .ldDA := by unfold Statement; rfl
theorem ldEB : Statement .ldEB := by unfold Statement; rfl
theorem ldEC : Statement .ldEC := by unfold Statement; rfl
theorem ldED : Statement .ldED := by unfold Statement; rfl
theorem ldEE : Statement .ldEE := by unfold Statement; rfl
theorem ldEH : Statement .ldEH := by unfold Statement; rfl
theorem ldEL : Statement .ldEL := by unfold Statement; rfl
theorem ldEAtHL : Statement .ldEAtHL := by unfold Statement; rfl
theorem ldEA : Statement .ldEA := by unfold Statement; rfl
theorem ldHB : Statement .ldHB := by unfold Statement; rfl
theorem ldHC : Statement .ldHC := by unfold Statement; rfl
theorem ldHD : Statement .ldHD := by unfold Statement; rfl
theorem ldHE : Statement .ldHE := by unfold Statement; rfl
theorem ldHH : Statement .ldHH := by unfold Statement; rfl
theorem ldHL : Statement .ldHL := by unfold Statement; rfl
theorem ldHAtHL : Statement .ldHAtHL := by unfold Statement; rfl
theorem ldHA : Statement .ldHA := by unfold Statement; rfl
theorem ldLB : Statement .ldLB := by unfold Statement; rfl
theorem ldLC : Statement .ldLC := by unfold Statement; rfl
theorem ldLD : Statement .ldLD := by unfold Statement; rfl
theorem ldLE : Statement .ldLE := by unfold Statement; rfl
theorem ldLH : Statement .ldLH := by unfold Statement; rfl
theorem ldLL : Statement .ldLL := by unfold Statement; rfl
theorem ldLAtHL : Statement .ldLAtHL := by unfold Statement; rfl
theorem ldLA : Statement .ldLA := by unfold Statement; rfl
theorem ldAtHLB : Statement .ldAtHLB := by unfold Statement; rfl
theorem ldAtHLC : Statement .ldAtHLC := by unfold Statement; rfl
theorem ldAtHLD : Statement .ldAtHLD := by unfold Statement; rfl
theorem ldAtHLE : Statement .ldAtHLE := by unfold Statement; rfl
theorem ldAtHLH : Statement .ldAtHLH := by unfold Statement; rfl
theorem ldAtHLL : Statement .ldAtHLL := by unfold Statement; rfl
theorem halt : Statement .halt := by unfold Statement; rfl
theorem ldAtHLA : Statement .ldAtHLA := by unfold Statement; rfl
theorem ldAB : Statement .ldAB := by unfold Statement; rfl
theorem ldAC : Statement .ldAC := by unfold Statement; rfl
theorem ldAD : Statement .ldAD := by unfold Statement; rfl
theorem ldAE : Statement .ldAE := by unfold Statement; rfl
theorem ldAH : Statement .ldAH := by unfold Statement; rfl
theorem ldAL : Statement .ldAL := by unfold Statement; rfl
theorem ldAAtHL : Statement .ldAAtHL := by unfold Statement; rfl
theorem ldAA : Statement .ldAA := by unfold Statement; rfl
theorem addAB : Statement .addAB := by unfold Statement; rfl
theorem addAC : Statement .addAC := by unfold Statement; rfl
theorem addAD : Statement .addAD := by unfold Statement; rfl
theorem addAE : Statement .addAE := by unfold Statement; rfl
theorem addAH : Statement .addAH := by unfold Statement; rfl
theorem addAL : Statement .addAL := by unfold Statement; rfl
theorem addAAtHL : Statement .addAAtHL := by unfold Statement; rfl
theorem addAA : Statement .addAA := by unfold Statement; rfl
theorem adcAB : Statement .adcAB := by unfold Statement; rfl
theorem adcAC : Statement .adcAC := by unfold Statement; rfl
theorem adcAD : Statement .adcAD := by unfold Statement; rfl
theorem adcAE : Statement .adcAE := by unfold Statement; rfl
theorem adcAH : Statement .adcAH := by unfold Statement; rfl
theorem adcAL : Statement .adcAL := by unfold Statement; rfl
theorem adcAAtHL : Statement .adcAAtHL := by unfold Statement; rfl
theorem adcAA : Statement .adcAA := by unfold Statement; rfl
theorem subB : Statement .subB := by unfold Statement; rfl
theorem subC : Statement .subC := by unfold Statement; rfl
theorem subD : Statement .subD := by unfold Statement; rfl
theorem subE : Statement .subE := by unfold Statement; rfl
theorem subH : Statement .subH := by unfold Statement; rfl
theorem subL : Statement .subL := by unfold Statement; rfl
theorem subAtHL : Statement .subAtHL := by unfold Statement; rfl
theorem subA : Statement .subA := by unfold Statement; rfl
theorem sbcAB : Statement .sbcAB := by unfold Statement; rfl
theorem sbcAC : Statement .sbcAC := by unfold Statement; rfl
theorem sbcAD : Statement .sbcAD := by unfold Statement; rfl
theorem sbcAE : Statement .sbcAE := by unfold Statement; rfl
theorem sbcAH : Statement .sbcAH := by unfold Statement; rfl
theorem sbcAL : Statement .sbcAL := by unfold Statement; rfl
theorem sbcAAtHL : Statement .sbcAAtHL := by unfold Statement; rfl
theorem sbcAA : Statement .sbcAA := by unfold Statement; rfl
theorem andB : Statement .andB := by unfold Statement; rfl
theorem andC : Statement .andC := by unfold Statement; rfl
theorem andD : Statement .andD := by unfold Statement; rfl
theorem andE : Statement .andE := by unfold Statement; rfl
theorem andH : Statement .andH := by unfold Statement; rfl
theorem andL : Statement .andL := by unfold Statement; rfl
theorem andAtHL : Statement .andAtHL := by unfold Statement; rfl
theorem andA : Statement .andA := by unfold Statement; rfl
theorem xorB : Statement .xorB := by unfold Statement; rfl
theorem xorC : Statement .xorC := by unfold Statement; rfl
theorem xorD : Statement .xorD := by unfold Statement; rfl
theorem xorE : Statement .xorE := by unfold Statement; rfl
theorem xorH : Statement .xorH := by unfold Statement; rfl
theorem xorL : Statement .xorL := by unfold Statement; rfl
theorem xorAtHL : Statement .xorAtHL := by unfold Statement; rfl
theorem xorA : Statement .xorA := by unfold Statement; rfl
theorem orB : Statement .orB := by unfold Statement; rfl
theorem orC : Statement .orC := by unfold Statement; rfl
theorem orD : Statement .orD := by unfold Statement; rfl
theorem orE : Statement .orE := by unfold Statement; rfl
theorem orH : Statement .orH := by unfold Statement; rfl
theorem orL : Statement .orL := by unfold Statement; rfl
theorem orAtHL : Statement .orAtHL := by unfold Statement; rfl
theorem orA : Statement .orA := by unfold Statement; rfl
theorem cpB : Statement .cpB := by unfold Statement; rfl
theorem cpC : Statement .cpC := by unfold Statement; rfl
theorem cpD : Statement .cpD := by unfold Statement; rfl
theorem cpE : Statement .cpE := by unfold Statement; rfl
theorem cpH : Statement .cpH := by unfold Statement; rfl
theorem cpL : Statement .cpL := by unfold Statement; rfl
theorem cpAtHL : Statement .cpAtHL := by unfold Statement; rfl
theorem cpA : Statement .cpA := by unfold Statement; rfl
theorem retNZ : Statement .retNZ := by unfold Statement; rfl
theorem popBC : Statement .popBC := by unfold Statement; rfl
theorem pushBC : Statement .pushBC := by unfold Statement; rfl
theorem rst00 : Statement .rst00 := by unfold Statement; rfl
theorem retZ : Statement .retZ := by unfold Statement; rfl
theorem ret : Statement .ret := by unfold Statement; rfl
theorem prefixCb : Statement .prefixCb := by unfold Statement; rfl
theorem rst08 : Statement .rst08 := by unfold Statement; rfl
theorem retNC : Statement .retNC := by unfold Statement; rfl
theorem popDE : Statement .popDE := by unfold Statement; rfl
theorem reservedD3 : Statement .reservedD3 := by unfold Statement; rfl
theorem pushDE : Statement .pushDE := by unfold Statement; rfl
theorem rst10 : Statement .rst10 := by unfold Statement; rfl
theorem retC : Statement .retC := by unfold Statement; rfl
theorem reti : Statement .reti := by unfold Statement; rfl
theorem reservedDB : Statement .reservedDB := by unfold Statement; rfl
theorem reservedDD : Statement .reservedDD := by unfold Statement; rfl
theorem rst18 : Statement .rst18 := by unfold Statement; rfl
theorem popHL : Statement .popHL := by unfold Statement; rfl
theorem ldAtCA : Statement .ldAtCA := by unfold Statement; rfl
theorem reservedE3 : Statement .reservedE3 := by unfold Statement; rfl
theorem reservedE4 : Statement .reservedE4 := by unfold Statement; rfl
theorem pushHL : Statement .pushHL := by unfold Statement; rfl
theorem rst20 : Statement .rst20 := by unfold Statement; rfl
theorem jpHL : Statement .jpHL := by unfold Statement; rfl
theorem reservedEB : Statement .reservedEB := by unfold Statement; rfl
theorem reservedEC : Statement .reservedEC := by unfold Statement; rfl
theorem reservedED : Statement .reservedED := by unfold Statement; rfl
theorem rst28 : Statement .rst28 := by unfold Statement; rfl
theorem popAF : Statement .popAF := by unfold Statement; rfl
theorem ldAAtC : Statement .ldAAtC := by unfold Statement; rfl
theorem di : Statement .di := by unfold Statement; rfl
theorem reservedF4 : Statement .reservedF4 := by unfold Statement; rfl
theorem pushAF : Statement .pushAF := by unfold Statement; rfl
theorem rst30 : Statement .rst30 := by unfold Statement; rfl
theorem ldSPHL : Statement .ldSPHL := by unfold Statement; rfl
theorem ei : Statement .ei := by unfold Statement; rfl
theorem reservedFC : Statement .reservedFC := by unfold Statement; rfl
theorem reservedFD : Statement .reservedFD := by unfold Statement; rfl
theorem rst38 : Statement .rst38 := by unfold Statement; rfl
theorem rlcB : Statement .rlcB := by unfold Statement; rfl
theorem rlcC : Statement .rlcC := by unfold Statement; rfl
theorem rlcD : Statement .rlcD := by unfold Statement; rfl
theorem rlcE : Statement .rlcE := by unfold Statement; rfl
theorem rlcH : Statement .rlcH := by unfold Statement; rfl
theorem rlcL : Statement .rlcL := by unfold Statement; rfl
theorem rlcAtHL : Statement .rlcAtHL := by unfold Statement; rfl
theorem rlcA : Statement .rlcA := by unfold Statement; rfl
theorem rrcB : Statement .rrcB := by unfold Statement; rfl
theorem rrcC : Statement .rrcC := by unfold Statement; rfl
theorem rrcD : Statement .rrcD := by unfold Statement; rfl
theorem rrcE : Statement .rrcE := by unfold Statement; rfl
theorem rrcH : Statement .rrcH := by unfold Statement; rfl
theorem rrcL : Statement .rrcL := by unfold Statement; rfl
theorem rrcAtHL : Statement .rrcAtHL := by unfold Statement; rfl
theorem rrcA : Statement .rrcA := by unfold Statement; rfl
theorem rlB : Statement .rlB := by unfold Statement; rfl
theorem rlC : Statement .rlC := by unfold Statement; rfl
theorem rlD : Statement .rlD := by unfold Statement; rfl
theorem rlE : Statement .rlE := by unfold Statement; rfl
theorem rlH : Statement .rlH := by unfold Statement; rfl
theorem rlL : Statement .rlL := by unfold Statement; rfl
theorem rlAtHL : Statement .rlAtHL := by unfold Statement; rfl
theorem rlA : Statement .rlA := by unfold Statement; rfl
theorem rrB : Statement .rrB := by unfold Statement; rfl
theorem rrC : Statement .rrC := by unfold Statement; rfl
theorem rrD : Statement .rrD := by unfold Statement; rfl
theorem rrE : Statement .rrE := by unfold Statement; rfl
theorem rrH : Statement .rrH := by unfold Statement; rfl
theorem rrL : Statement .rrL := by unfold Statement; rfl
theorem rrAtHL : Statement .rrAtHL := by unfold Statement; rfl
theorem rrA : Statement .rrA := by unfold Statement; rfl
theorem slaB : Statement .slaB := by unfold Statement; rfl
theorem slaC : Statement .slaC := by unfold Statement; rfl
theorem slaD : Statement .slaD := by unfold Statement; rfl
theorem slaE : Statement .slaE := by unfold Statement; rfl
theorem slaH : Statement .slaH := by unfold Statement; rfl
theorem slaL : Statement .slaL := by unfold Statement; rfl
theorem slaAtHL : Statement .slaAtHL := by unfold Statement; rfl
theorem slaA : Statement .slaA := by unfold Statement; rfl
theorem sraB : Statement .sraB := by unfold Statement; rfl
theorem sraC : Statement .sraC := by unfold Statement; rfl
theorem sraD : Statement .sraD := by unfold Statement; rfl
theorem sraE : Statement .sraE := by unfold Statement; rfl
theorem sraH : Statement .sraH := by unfold Statement; rfl
theorem sraL : Statement .sraL := by unfold Statement; rfl
theorem sraAtHL : Statement .sraAtHL := by unfold Statement; rfl
theorem sraA : Statement .sraA := by unfold Statement; rfl
theorem swapB : Statement .swapB := by unfold Statement; rfl
theorem swapC : Statement .swapC := by unfold Statement; rfl
theorem swapD : Statement .swapD := by unfold Statement; rfl
theorem swapE : Statement .swapE := by unfold Statement; rfl
theorem swapH : Statement .swapH := by unfold Statement; rfl
theorem swapL : Statement .swapL := by unfold Statement; rfl
theorem swapAtHL : Statement .swapAtHL := by unfold Statement; rfl
theorem swapA : Statement .swapA := by unfold Statement; rfl
theorem srlB : Statement .srlB := by unfold Statement; rfl
theorem srlC : Statement .srlC := by unfold Statement; rfl
theorem srlD : Statement .srlD := by unfold Statement; rfl
theorem srlE : Statement .srlE := by unfold Statement; rfl
theorem srlH : Statement .srlH := by unfold Statement; rfl
theorem srlL : Statement .srlL := by unfold Statement; rfl
theorem srlAtHL : Statement .srlAtHL := by unfold Statement; rfl
theorem srlA : Statement .srlA := by unfold Statement; rfl
theorem bit0B : Statement .bit0B := by unfold Statement; rfl
theorem bit0C : Statement .bit0C := by unfold Statement; rfl
theorem bit0D : Statement .bit0D := by unfold Statement; rfl
theorem bit0E : Statement .bit0E := by unfold Statement; rfl
theorem bit0H : Statement .bit0H := by unfold Statement; rfl
theorem bit0L : Statement .bit0L := by unfold Statement; rfl
theorem bit0AtHL : Statement .bit0AtHL := by unfold Statement; rfl
theorem bit0A : Statement .bit0A := by unfold Statement; rfl
theorem bit1B : Statement .bit1B := by unfold Statement; rfl
theorem bit1C : Statement .bit1C := by unfold Statement; rfl
theorem bit1D : Statement .bit1D := by unfold Statement; rfl
theorem bit1E : Statement .bit1E := by unfold Statement; rfl
theorem bit1H : Statement .bit1H := by unfold Statement; rfl
theorem bit1L : Statement .bit1L := by unfold Statement; rfl
theorem bit1AtHL : Statement .bit1AtHL := by unfold Statement; rfl
theorem bit1A : Statement .bit1A := by unfold Statement; rfl
theorem bit2B : Statement .bit2B := by unfold Statement; rfl
theorem bit2C : Statement .bit2C := by unfold Statement; rfl
theorem bit2D : Statement .bit2D := by unfold Statement; rfl
theorem bit2E : Statement .bit2E := by unfold Statement; rfl
theorem bit2H : Statement .bit2H := by unfold Statement; rfl
theorem bit2L : Statement .bit2L := by unfold Statement; rfl
theorem bit2AtHL : Statement .bit2AtHL := by unfold Statement; rfl
theorem bit2A : Statement .bit2A := by unfold Statement; rfl
theorem bit3B : Statement .bit3B := by unfold Statement; rfl
theorem bit3C : Statement .bit3C := by unfold Statement; rfl
theorem bit3D : Statement .bit3D := by unfold Statement; rfl
theorem bit3E : Statement .bit3E := by unfold Statement; rfl
theorem bit3H : Statement .bit3H := by unfold Statement; rfl
theorem bit3L : Statement .bit3L := by unfold Statement; rfl
theorem bit3AtHL : Statement .bit3AtHL := by unfold Statement; rfl
theorem bit3A : Statement .bit3A := by unfold Statement; rfl
theorem bit4B : Statement .bit4B := by unfold Statement; rfl
theorem bit4C : Statement .bit4C := by unfold Statement; rfl
theorem bit4D : Statement .bit4D := by unfold Statement; rfl
theorem bit4E : Statement .bit4E := by unfold Statement; rfl
theorem bit4H : Statement .bit4H := by unfold Statement; rfl
theorem bit4L : Statement .bit4L := by unfold Statement; rfl
theorem bit4AtHL : Statement .bit4AtHL := by unfold Statement; rfl
theorem bit4A : Statement .bit4A := by unfold Statement; rfl
theorem bit5B : Statement .bit5B := by unfold Statement; rfl
theorem bit5C : Statement .bit5C := by unfold Statement; rfl
theorem bit5D : Statement .bit5D := by unfold Statement; rfl
theorem bit5E : Statement .bit5E := by unfold Statement; rfl
theorem bit5H : Statement .bit5H := by unfold Statement; rfl
theorem bit5L : Statement .bit5L := by unfold Statement; rfl
theorem bit5AtHL : Statement .bit5AtHL := by unfold Statement; rfl
theorem bit5A : Statement .bit5A := by unfold Statement; rfl
theorem bit6B : Statement .bit6B := by unfold Statement; rfl
theorem bit6C : Statement .bit6C := by unfold Statement; rfl
theorem bit6D : Statement .bit6D := by unfold Statement; rfl
theorem bit6E : Statement .bit6E := by unfold Statement; rfl
theorem bit6H : Statement .bit6H := by unfold Statement; rfl
theorem bit6L : Statement .bit6L := by unfold Statement; rfl
theorem bit6AtHL : Statement .bit6AtHL := by unfold Statement; rfl
theorem bit6A : Statement .bit6A := by unfold Statement; rfl
theorem bit7B : Statement .bit7B := by unfold Statement; rfl
theorem bit7C : Statement .bit7C := by unfold Statement; rfl
theorem bit7D : Statement .bit7D := by unfold Statement; rfl
theorem bit7E : Statement .bit7E := by unfold Statement; rfl
theorem bit7H : Statement .bit7H := by unfold Statement; rfl
theorem bit7L : Statement .bit7L := by unfold Statement; rfl
theorem bit7AtHL : Statement .bit7AtHL := by unfold Statement; rfl
theorem bit7A : Statement .bit7A := by unfold Statement; rfl
theorem res0B : Statement .res0B := by unfold Statement; rfl
theorem res0C : Statement .res0C := by unfold Statement; rfl
theorem res0D : Statement .res0D := by unfold Statement; rfl
theorem res0E : Statement .res0E := by unfold Statement; rfl
theorem res0H : Statement .res0H := by unfold Statement; rfl
theorem res0L : Statement .res0L := by unfold Statement; rfl
theorem res0AtHL : Statement .res0AtHL := by unfold Statement; rfl
theorem res0A : Statement .res0A := by unfold Statement; rfl
theorem res1B : Statement .res1B := by unfold Statement; rfl
theorem res1C : Statement .res1C := by unfold Statement; rfl
theorem res1D : Statement .res1D := by unfold Statement; rfl
theorem res1E : Statement .res1E := by unfold Statement; rfl
theorem res1H : Statement .res1H := by unfold Statement; rfl
theorem res1L : Statement .res1L := by unfold Statement; rfl
theorem res1AtHL : Statement .res1AtHL := by unfold Statement; rfl
theorem res1A : Statement .res1A := by unfold Statement; rfl
theorem res2B : Statement .res2B := by unfold Statement; rfl
theorem res2C : Statement .res2C := by unfold Statement; rfl
theorem res2D : Statement .res2D := by unfold Statement; rfl
theorem res2E : Statement .res2E := by unfold Statement; rfl
theorem res2H : Statement .res2H := by unfold Statement; rfl
theorem res2L : Statement .res2L := by unfold Statement; rfl
theorem res2AtHL : Statement .res2AtHL := by unfold Statement; rfl
theorem res2A : Statement .res2A := by unfold Statement; rfl
theorem res3B : Statement .res3B := by unfold Statement; rfl
theorem res3C : Statement .res3C := by unfold Statement; rfl
theorem res3D : Statement .res3D := by unfold Statement; rfl
theorem res3E : Statement .res3E := by unfold Statement; rfl
theorem res3H : Statement .res3H := by unfold Statement; rfl
theorem res3L : Statement .res3L := by unfold Statement; rfl
theorem res3AtHL : Statement .res3AtHL := by unfold Statement; rfl
theorem res3A : Statement .res3A := by unfold Statement; rfl
theorem res4B : Statement .res4B := by unfold Statement; rfl
theorem res4C : Statement .res4C := by unfold Statement; rfl
theorem res4D : Statement .res4D := by unfold Statement; rfl
theorem res4E : Statement .res4E := by unfold Statement; rfl
theorem res4H : Statement .res4H := by unfold Statement; rfl
theorem res4L : Statement .res4L := by unfold Statement; rfl
theorem res4AtHL : Statement .res4AtHL := by unfold Statement; rfl
theorem res4A : Statement .res4A := by unfold Statement; rfl
theorem res5B : Statement .res5B := by unfold Statement; rfl
theorem res5C : Statement .res5C := by unfold Statement; rfl
theorem res5D : Statement .res5D := by unfold Statement; rfl
theorem res5E : Statement .res5E := by unfold Statement; rfl
theorem res5H : Statement .res5H := by unfold Statement; rfl
theorem res5L : Statement .res5L := by unfold Statement; rfl
theorem res5AtHL : Statement .res5AtHL := by unfold Statement; rfl
theorem res5A : Statement .res5A := by unfold Statement; rfl
theorem res6B : Statement .res6B := by unfold Statement; rfl
theorem res6C : Statement .res6C := by unfold Statement; rfl
theorem res6D : Statement .res6D := by unfold Statement; rfl
theorem res6E : Statement .res6E := by unfold Statement; rfl
theorem res6H : Statement .res6H := by unfold Statement; rfl
theorem res6L : Statement .res6L := by unfold Statement; rfl
theorem res6AtHL : Statement .res6AtHL := by unfold Statement; rfl
theorem res6A : Statement .res6A := by unfold Statement; rfl
theorem res7B : Statement .res7B := by unfold Statement; rfl
theorem res7C : Statement .res7C := by unfold Statement; rfl
theorem res7D : Statement .res7D := by unfold Statement; rfl
theorem res7E : Statement .res7E := by unfold Statement; rfl
theorem res7H : Statement .res7H := by unfold Statement; rfl
theorem res7L : Statement .res7L := by unfold Statement; rfl
theorem res7AtHL : Statement .res7AtHL := by unfold Statement; rfl
theorem res7A : Statement .res7A := by unfold Statement; rfl
theorem set0B : Statement .set0B := by unfold Statement; rfl
theorem set0C : Statement .set0C := by unfold Statement; rfl
theorem set0D : Statement .set0D := by unfold Statement; rfl
theorem set0E : Statement .set0E := by unfold Statement; rfl
theorem set0H : Statement .set0H := by unfold Statement; rfl
theorem set0L : Statement .set0L := by unfold Statement; rfl
theorem set0AtHL : Statement .set0AtHL := by unfold Statement; rfl
theorem set0A : Statement .set0A := by unfold Statement; rfl
theorem set1B : Statement .set1B := by unfold Statement; rfl
theorem set1C : Statement .set1C := by unfold Statement; rfl
theorem set1D : Statement .set1D := by unfold Statement; rfl
theorem set1E : Statement .set1E := by unfold Statement; rfl
theorem set1H : Statement .set1H := by unfold Statement; rfl
theorem set1L : Statement .set1L := by unfold Statement; rfl
theorem set1AtHL : Statement .set1AtHL := by unfold Statement; rfl
theorem set1A : Statement .set1A := by unfold Statement; rfl
theorem set2B : Statement .set2B := by unfold Statement; rfl
theorem set2C : Statement .set2C := by unfold Statement; rfl
theorem set2D : Statement .set2D := by unfold Statement; rfl
theorem set2E : Statement .set2E := by unfold Statement; rfl
theorem set2H : Statement .set2H := by unfold Statement; rfl
theorem set2L : Statement .set2L := by unfold Statement; rfl
theorem set2AtHL : Statement .set2AtHL := by unfold Statement; rfl
theorem set2A : Statement .set2A := by unfold Statement; rfl
theorem set3B : Statement .set3B := by unfold Statement; rfl
theorem set3C : Statement .set3C := by unfold Statement; rfl
theorem set3D : Statement .set3D := by unfold Statement; rfl
theorem set3E : Statement .set3E := by unfold Statement; rfl
theorem set3H : Statement .set3H := by unfold Statement; rfl
theorem set3L : Statement .set3L := by unfold Statement; rfl
theorem set3AtHL : Statement .set3AtHL := by unfold Statement; rfl
theorem set3A : Statement .set3A := by unfold Statement; rfl
theorem set4B : Statement .set4B := by unfold Statement; rfl
theorem set4C : Statement .set4C := by unfold Statement; rfl
theorem set4D : Statement .set4D := by unfold Statement; rfl
theorem set4E : Statement .set4E := by unfold Statement; rfl
theorem set4H : Statement .set4H := by unfold Statement; rfl
theorem set4L : Statement .set4L := by unfold Statement; rfl
theorem set4AtHL : Statement .set4AtHL := by unfold Statement; rfl
theorem set4A : Statement .set4A := by unfold Statement; rfl
theorem set5B : Statement .set5B := by unfold Statement; rfl
theorem set5C : Statement .set5C := by unfold Statement; rfl
theorem set5D : Statement .set5D := by unfold Statement; rfl
theorem set5E : Statement .set5E := by unfold Statement; rfl
theorem set5H : Statement .set5H := by unfold Statement; rfl
theorem set5L : Statement .set5L := by unfold Statement; rfl
theorem set5AtHL : Statement .set5AtHL := by unfold Statement; rfl
theorem set5A : Statement .set5A := by unfold Statement; rfl
theorem set6B : Statement .set6B := by unfold Statement; rfl
theorem set6C : Statement .set6C := by unfold Statement; rfl
theorem set6D : Statement .set6D := by unfold Statement; rfl
theorem set6E : Statement .set6E := by unfold Statement; rfl
theorem set6H : Statement .set6H := by unfold Statement; rfl
theorem set6L : Statement .set6L := by unfold Statement; rfl
theorem set6AtHL : Statement .set6AtHL := by unfold Statement; rfl
theorem set6A : Statement .set6A := by unfold Statement; rfl
theorem set7B : Statement .set7B := by unfold Statement; rfl
theorem set7C : Statement .set7C := by unfold Statement; rfl
theorem set7D : Statement .set7D := by unfold Statement; rfl
theorem set7E : Statement .set7E := by unfold Statement; rfl
theorem set7H : Statement .set7H := by unfold Statement; rfl
theorem set7L : Statement .set7L := by unfold Statement; rfl
theorem set7AtHL : Statement .set7AtHL := by unfold Statement; rfl
theorem set7A : Statement .set7A := by unfold Statement; rfl

end Sys2Proof.Laws.EncodedLength
end

