-- ==== Sys2Proof/Tests/Slice0.lean ====
section
/-! SUPPORT. Tests: what WellFormed refuses, what every word of the opcode table decodes to, single steps with the results
the spec's test vectors give (spec/95_test_vectors.md, section 2, unless another source is named), and, for every
statement with hypotheses, a state and operands that meet them. -/

namespace Sys2Proof.Tests

open Sys2Proof Sys2Proof.Machine Sys2Proof.Claims

/-- The instruction the decoder reads first. -/
def decoded (bytes : List Byte) : Option Instr :=
  match decode bytes with
  | .ok (i, _) => some i
  | .error _ => none

/-- The CB-table instructions of sixteen table bytes. -/
def decodedCb (ops : List Byte) : List (Option Instr) := ops.map fun op => decoded [0xCB#8, op]

/-- The primary-table instructions of sixteen opcodes, each followed by the bytes 0x34 and 0x12. -/
def decodedRow (ops : List Byte) : List (Option Instr) := ops.map fun op => decoded [op, 0x34#8, 0x12#8]

/-- The state after one step from `s` with `bytes` placed at its PC. -/
def after (s : State) (bytes : List Byte) : Option State :=
  match step (placeBytes s.pc bytes s) with
  | .next t => some t
  | .fault _ => none
  | .refused _ => none

/-- The reset state with PC at 0x0100. -/
def base : State := { State.reset with pc := 0x0100#16 }

/-- `s` with the byte `v` at `addr`. -/
def put (addr : Word) (v : Byte) (s : State) : State := placeBytes addr [v] s

/-! ## Well-formedness -/

/-- The prefix alone is no whole instruction (R95, R258). -/
theorem test_prefix_alone_is_ill_formed : Instr.wellFormed .prefixCb = false := by decide

theorem test_cb_instruction_is_well_formed : Instr.wellFormed .bit7H = true := by decide

/-! ## Decoding, sixteen words a theorem, from the opcode numbers and the field rules of spec/30_encoding.md (R85 to
R94). -/

theorem test_decode_primary_0 : decodedRow [0x00#8, 0x01#8, 0x02#8, 0x03#8, 0x04#8, 0x05#8, 0x06#8, 0x07#8, 0x08#8, 0x09#8, 0x0A#8, 0x0B#8, 0x0C#8, 0x0D#8, 0x0E#8, 0x0F#8] = [
    some .nop, some (.ldBCImm 0x1234#16), some .ldAtBCA, some .incBC,
    some .incB, some .decB, some (.ldBImm 0x34#8), some .rlca,
    some (.ldAtImmSP 0x1234#16), some .addHLBC, some .ldAAtBC, some .decBC,
    some .incC, some .decC, some (.ldCImm 0x34#8), some .rrca] := by decide

theorem test_decode_primary_1 : decodedRow [0x10#8, 0x11#8, 0x12#8, 0x13#8, 0x14#8, 0x15#8, 0x16#8, 0x17#8, 0x18#8, 0x19#8, 0x1A#8, 0x1B#8, 0x1C#8, 0x1D#8, 0x1E#8, 0x1F#8] = [
    some .stop, some (.ldDEImm 0x1234#16), some .ldAtDEA, some .incDE,
    some .incD, some .decD, some (.ldDImm 0x34#8), some .rla,
    some (.jr 0x34#8), some .addHLDE, some .ldAAtDE, some .decDE,
    some .incE, some .decE, some (.ldEImm 0x34#8), some .rra] := by decide

theorem test_decode_primary_2 : decodedRow [0x20#8, 0x21#8, 0x22#8, 0x23#8, 0x24#8, 0x25#8, 0x26#8, 0x27#8, 0x28#8, 0x29#8, 0x2A#8, 0x2B#8, 0x2C#8, 0x2D#8, 0x2E#8, 0x2F#8] = [
    some (.jrNZ 0x34#8), some (.ldHLImm 0x1234#16), some .ldAtHLIncA, some .incHL,
    some .incH, some .decH, some (.ldHImm 0x34#8), some .daa,
    some (.jrZ 0x34#8), some .addHLHL, some .ldAAtHLInc, some .decHL,
    some .incL, some .decL, some (.ldLImm 0x34#8), some .cpl] := by decide

theorem test_decode_primary_3 : decodedRow [0x30#8, 0x31#8, 0x32#8, 0x33#8, 0x34#8, 0x35#8, 0x36#8, 0x37#8, 0x38#8, 0x39#8, 0x3A#8, 0x3B#8, 0x3C#8, 0x3D#8, 0x3E#8, 0x3F#8] = [
    some (.jrNC 0x34#8), some (.ldSPImm 0x1234#16), some .ldAtHLDecA, some .incSP,
    some .incAtHL, some .decAtHL, some (.ldAtHLImm 0x34#8), some .scf,
    some (.jrC 0x34#8), some .addHLSP, some .ldAAtHLDec, some .decSP,
    some .incA, some .decA, some (.ldAImm 0x34#8), some .ccf] := by decide

theorem test_decode_primary_4 : decodedRow [0x40#8, 0x41#8, 0x42#8, 0x43#8, 0x44#8, 0x45#8, 0x46#8, 0x47#8, 0x48#8, 0x49#8, 0x4A#8, 0x4B#8, 0x4C#8, 0x4D#8, 0x4E#8, 0x4F#8] = [
    some .ldBB, some .ldBC, some .ldBD, some .ldBE,
    some .ldBH, some .ldBL, some .ldBAtHL, some .ldBA,
    some .ldCB, some .ldCC, some .ldCD, some .ldCE,
    some .ldCH, some .ldCL, some .ldCAtHL, some .ldCA] := by decide

theorem test_decode_primary_5 : decodedRow [0x50#8, 0x51#8, 0x52#8, 0x53#8, 0x54#8, 0x55#8, 0x56#8, 0x57#8, 0x58#8, 0x59#8, 0x5A#8, 0x5B#8, 0x5C#8, 0x5D#8, 0x5E#8, 0x5F#8] = [
    some .ldDB, some .ldDC, some .ldDD, some .ldDE,
    some .ldDH, some .ldDL, some .ldDAtHL, some .ldDA,
    some .ldEB, some .ldEC, some .ldED, some .ldEE,
    some .ldEH, some .ldEL, some .ldEAtHL, some .ldEA] := by decide

theorem test_decode_primary_6 : decodedRow [0x60#8, 0x61#8, 0x62#8, 0x63#8, 0x64#8, 0x65#8, 0x66#8, 0x67#8, 0x68#8, 0x69#8, 0x6A#8, 0x6B#8, 0x6C#8, 0x6D#8, 0x6E#8, 0x6F#8] = [
    some .ldHB, some .ldHC, some .ldHD, some .ldHE,
    some .ldHH, some .ldHL, some .ldHAtHL, some .ldHA,
    some .ldLB, some .ldLC, some .ldLD, some .ldLE,
    some .ldLH, some .ldLL, some .ldLAtHL, some .ldLA] := by decide

theorem test_decode_primary_7 : decodedRow [0x70#8, 0x71#8, 0x72#8, 0x73#8, 0x74#8, 0x75#8, 0x76#8, 0x77#8, 0x78#8, 0x79#8, 0x7A#8, 0x7B#8, 0x7C#8, 0x7D#8, 0x7E#8, 0x7F#8] = [
    some .ldAtHLB, some .ldAtHLC, some .ldAtHLD, some .ldAtHLE,
    some .ldAtHLH, some .ldAtHLL, some .halt, some .ldAtHLA,
    some .ldAB, some .ldAC, some .ldAD, some .ldAE,
    some .ldAH, some .ldAL, some .ldAAtHL, some .ldAA] := by decide

theorem test_decode_primary_8 : decodedRow [0x80#8, 0x81#8, 0x82#8, 0x83#8, 0x84#8, 0x85#8, 0x86#8, 0x87#8, 0x88#8, 0x89#8, 0x8A#8, 0x8B#8, 0x8C#8, 0x8D#8, 0x8E#8, 0x8F#8] = [
    some .addAB, some .addAC, some .addAD, some .addAE,
    some .addAH, some .addAL, some .addAAtHL, some .addAA,
    some .adcAB, some .adcAC, some .adcAD, some .adcAE,
    some .adcAH, some .adcAL, some .adcAAtHL, some .adcAA] := by decide

theorem test_decode_primary_9 : decodedRow [0x90#8, 0x91#8, 0x92#8, 0x93#8, 0x94#8, 0x95#8, 0x96#8, 0x97#8, 0x98#8, 0x99#8, 0x9A#8, 0x9B#8, 0x9C#8, 0x9D#8, 0x9E#8, 0x9F#8] = [
    some .subB, some .subC, some .subD, some .subE,
    some .subH, some .subL, some .subAtHL, some .subA,
    some .sbcAB, some .sbcAC, some .sbcAD, some .sbcAE,
    some .sbcAH, some .sbcAL, some .sbcAAtHL, some .sbcAA] := by decide

theorem test_decode_primary_A : decodedRow [0xA0#8, 0xA1#8, 0xA2#8, 0xA3#8, 0xA4#8, 0xA5#8, 0xA6#8, 0xA7#8, 0xA8#8, 0xA9#8, 0xAA#8, 0xAB#8, 0xAC#8, 0xAD#8, 0xAE#8, 0xAF#8] = [
    some .andB, some .andC, some .andD, some .andE,
    some .andH, some .andL, some .andAtHL, some .andA,
    some .xorB, some .xorC, some .xorD, some .xorE,
    some .xorH, some .xorL, some .xorAtHL, some .xorA] := by decide

theorem test_decode_primary_B : decodedRow [0xB0#8, 0xB1#8, 0xB2#8, 0xB3#8, 0xB4#8, 0xB5#8, 0xB6#8, 0xB7#8, 0xB8#8, 0xB9#8, 0xBA#8, 0xBB#8, 0xBC#8, 0xBD#8, 0xBE#8, 0xBF#8] = [
    some .orB, some .orC, some .orD, some .orE,
    some .orH, some .orL, some .orAtHL, some .orA,
    some .cpB, some .cpC, some .cpD, some .cpE,
    some .cpH, some .cpL, some .cpAtHL, some .cpA] := by decide

theorem test_decode_primary_C : decodedRow [0xC0#8, 0xC1#8, 0xC2#8, 0xC3#8, 0xC4#8, 0xC5#8, 0xC6#8, 0xC7#8, 0xC8#8, 0xC9#8, 0xCA#8, 0xCB#8, 0xCC#8, 0xCD#8, 0xCE#8, 0xCF#8] = [
    some .retNZ, some .popBC, some (.jpNZ 0x1234#16), some (.jp 0x1234#16),
    some (.callNZ 0x1234#16), some .pushBC, some (.addAImm 0x34#8), some .rst00,
    some .retZ, some .ret, some (.jpZ 0x1234#16), some .swapH,
    some (.callZ 0x1234#16), some (.call 0x1234#16), some (.adcAImm 0x34#8), some .rst08] := by decide

theorem test_decode_primary_D : decodedRow [0xD0#8, 0xD1#8, 0xD2#8, 0xD3#8, 0xD4#8, 0xD5#8, 0xD6#8, 0xD7#8, 0xD8#8, 0xD9#8, 0xDA#8, 0xDB#8, 0xDC#8, 0xDD#8, 0xDE#8, 0xDF#8] = [
    some .retNC, some .popDE, some (.jpNC 0x1234#16), some .reservedD3,
    some (.callNC 0x1234#16), some .pushDE, some (.subImm 0x34#8), some .rst10,
    some .retC, some .reti, some (.jpC 0x1234#16), some .reservedDB,
    some (.callC 0x1234#16), some .reservedDD, some (.sbcAImm 0x34#8), some .rst18] := by decide

theorem test_decode_primary_E : decodedRow [0xE0#8, 0xE1#8, 0xE2#8, 0xE3#8, 0xE4#8, 0xE5#8, 0xE6#8, 0xE7#8, 0xE8#8, 0xE9#8, 0xEA#8, 0xEB#8, 0xEC#8, 0xED#8, 0xEE#8, 0xEF#8] = [
    some (.ldhAtImmA 0x34#8), some .popHL, some .ldAtCA, some .reservedE3,
    some .reservedE4, some .pushHL, some (.andImm 0x34#8), some .rst20,
    some (.addSPImm 0x34#8), some .jpHL, some (.ldAtImmA 0x1234#16), some .reservedEB,
    some .reservedEC, some .reservedED, some (.xorImm 0x34#8), some .rst28] := by decide

theorem test_decode_primary_F : decodedRow [0xF0#8, 0xF1#8, 0xF2#8, 0xF3#8, 0xF4#8, 0xF5#8, 0xF6#8, 0xF7#8, 0xF8#8, 0xF9#8, 0xFA#8, 0xFB#8, 0xFC#8, 0xFD#8, 0xFE#8, 0xFF#8] = [
    some (.ldhAAtImm 0x34#8), some .popAF, some .ldAAtC, some .di,
    some .reservedF4, some .pushAF, some (.orImm 0x34#8), some .rst30,
    some (.ldHLSPImm 0x34#8), some .ldSPHL, some (.ldAAtImm 0x1234#16), some .ei,
    some .reservedFC, some .reservedFD, some (.cpImm 0x34#8), some .rst38] := by decide

theorem test_decode_cb_0 : decodedCb [0x00#8, 0x01#8, 0x02#8, 0x03#8, 0x04#8, 0x05#8, 0x06#8, 0x07#8, 0x08#8, 0x09#8, 0x0A#8, 0x0B#8, 0x0C#8, 0x0D#8, 0x0E#8, 0x0F#8] = [
    some .rlcB, some .rlcC, some .rlcD, some .rlcE, some .rlcH, some .rlcL, some .rlcAtHL, some .rlcA,
    some .rrcB, some .rrcC, some .rrcD, some .rrcE, some .rrcH, some .rrcL, some .rrcAtHL, some .rrcA] := by decide

theorem test_decode_cb_1 : decodedCb [0x10#8, 0x11#8, 0x12#8, 0x13#8, 0x14#8, 0x15#8, 0x16#8, 0x17#8, 0x18#8, 0x19#8, 0x1A#8, 0x1B#8, 0x1C#8, 0x1D#8, 0x1E#8, 0x1F#8] = [
    some .rlB, some .rlC, some .rlD, some .rlE, some .rlH, some .rlL, some .rlAtHL, some .rlA,
    some .rrB, some .rrC, some .rrD, some .rrE, some .rrH, some .rrL, some .rrAtHL, some .rrA] := by decide

theorem test_decode_cb_2 : decodedCb [0x20#8, 0x21#8, 0x22#8, 0x23#8, 0x24#8, 0x25#8, 0x26#8, 0x27#8, 0x28#8, 0x29#8, 0x2A#8, 0x2B#8, 0x2C#8, 0x2D#8, 0x2E#8, 0x2F#8] = [
    some .slaB, some .slaC, some .slaD, some .slaE, some .slaH, some .slaL, some .slaAtHL, some .slaA,
    some .sraB, some .sraC, some .sraD, some .sraE, some .sraH, some .sraL, some .sraAtHL, some .sraA] := by decide

theorem test_decode_cb_3 : decodedCb [0x30#8, 0x31#8, 0x32#8, 0x33#8, 0x34#8, 0x35#8, 0x36#8, 0x37#8, 0x38#8, 0x39#8, 0x3A#8, 0x3B#8, 0x3C#8, 0x3D#8, 0x3E#8, 0x3F#8] = [
    some .swapB, some .swapC, some .swapD, some .swapE, some .swapH, some .swapL, some .swapAtHL, some .swapA,
    some .srlB, some .srlC, some .srlD, some .srlE, some .srlH, some .srlL, some .srlAtHL, some .srlA] := by decide

theorem test_decode_cb_4 : decodedCb [0x40#8, 0x41#8, 0x42#8, 0x43#8, 0x44#8, 0x45#8, 0x46#8, 0x47#8, 0x48#8, 0x49#8, 0x4A#8, 0x4B#8, 0x4C#8, 0x4D#8, 0x4E#8, 0x4F#8] = [
    some .bit0B, some .bit0C, some .bit0D, some .bit0E, some .bit0H, some .bit0L, some .bit0AtHL, some .bit0A,
    some .bit1B, some .bit1C, some .bit1D, some .bit1E, some .bit1H, some .bit1L, some .bit1AtHL, some .bit1A] := by decide

theorem test_decode_cb_5 : decodedCb [0x50#8, 0x51#8, 0x52#8, 0x53#8, 0x54#8, 0x55#8, 0x56#8, 0x57#8, 0x58#8, 0x59#8, 0x5A#8, 0x5B#8, 0x5C#8, 0x5D#8, 0x5E#8, 0x5F#8] = [
    some .bit2B, some .bit2C, some .bit2D, some .bit2E, some .bit2H, some .bit2L, some .bit2AtHL, some .bit2A,
    some .bit3B, some .bit3C, some .bit3D, some .bit3E, some .bit3H, some .bit3L, some .bit3AtHL, some .bit3A] := by decide

theorem test_decode_cb_6 : decodedCb [0x60#8, 0x61#8, 0x62#8, 0x63#8, 0x64#8, 0x65#8, 0x66#8, 0x67#8, 0x68#8, 0x69#8, 0x6A#8, 0x6B#8, 0x6C#8, 0x6D#8, 0x6E#8, 0x6F#8] = [
    some .bit4B, some .bit4C, some .bit4D, some .bit4E, some .bit4H, some .bit4L, some .bit4AtHL, some .bit4A,
    some .bit5B, some .bit5C, some .bit5D, some .bit5E, some .bit5H, some .bit5L, some .bit5AtHL, some .bit5A] := by decide

theorem test_decode_cb_7 : decodedCb [0x70#8, 0x71#8, 0x72#8, 0x73#8, 0x74#8, 0x75#8, 0x76#8, 0x77#8, 0x78#8, 0x79#8, 0x7A#8, 0x7B#8, 0x7C#8, 0x7D#8, 0x7E#8, 0x7F#8] = [
    some .bit6B, some .bit6C, some .bit6D, some .bit6E, some .bit6H, some .bit6L, some .bit6AtHL, some .bit6A,
    some .bit7B, some .bit7C, some .bit7D, some .bit7E, some .bit7H, some .bit7L, some .bit7AtHL, some .bit7A] := by decide

theorem test_decode_cb_8 : decodedCb [0x80#8, 0x81#8, 0x82#8, 0x83#8, 0x84#8, 0x85#8, 0x86#8, 0x87#8, 0x88#8, 0x89#8, 0x8A#8, 0x8B#8, 0x8C#8, 0x8D#8, 0x8E#8, 0x8F#8] = [
    some .res0B, some .res0C, some .res0D, some .res0E, some .res0H, some .res0L, some .res0AtHL, some .res0A,
    some .res1B, some .res1C, some .res1D, some .res1E, some .res1H, some .res1L, some .res1AtHL, some .res1A] := by decide

theorem test_decode_cb_9 : decodedCb [0x90#8, 0x91#8, 0x92#8, 0x93#8, 0x94#8, 0x95#8, 0x96#8, 0x97#8, 0x98#8, 0x99#8, 0x9A#8, 0x9B#8, 0x9C#8, 0x9D#8, 0x9E#8, 0x9F#8] = [
    some .res2B, some .res2C, some .res2D, some .res2E, some .res2H, some .res2L, some .res2AtHL, some .res2A,
    some .res3B, some .res3C, some .res3D, some .res3E, some .res3H, some .res3L, some .res3AtHL, some .res3A] := by decide

theorem test_decode_cb_A : decodedCb [0xA0#8, 0xA1#8, 0xA2#8, 0xA3#8, 0xA4#8, 0xA5#8, 0xA6#8, 0xA7#8, 0xA8#8, 0xA9#8, 0xAA#8, 0xAB#8, 0xAC#8, 0xAD#8, 0xAE#8, 0xAF#8] = [
    some .res4B, some .res4C, some .res4D, some .res4E, some .res4H, some .res4L, some .res4AtHL, some .res4A,
    some .res5B, some .res5C, some .res5D, some .res5E, some .res5H, some .res5L, some .res5AtHL, some .res5A] := by decide

theorem test_decode_cb_B : decodedCb [0xB0#8, 0xB1#8, 0xB2#8, 0xB3#8, 0xB4#8, 0xB5#8, 0xB6#8, 0xB7#8, 0xB8#8, 0xB9#8, 0xBA#8, 0xBB#8, 0xBC#8, 0xBD#8, 0xBE#8, 0xBF#8] = [
    some .res6B, some .res6C, some .res6D, some .res6E, some .res6H, some .res6L, some .res6AtHL, some .res6A,
    some .res7B, some .res7C, some .res7D, some .res7E, some .res7H, some .res7L, some .res7AtHL, some .res7A] := by decide

theorem test_decode_cb_C : decodedCb [0xC0#8, 0xC1#8, 0xC2#8, 0xC3#8, 0xC4#8, 0xC5#8, 0xC6#8, 0xC7#8, 0xC8#8, 0xC9#8, 0xCA#8, 0xCB#8, 0xCC#8, 0xCD#8, 0xCE#8, 0xCF#8] = [
    some .set0B, some .set0C, some .set0D, some .set0E, some .set0H, some .set0L, some .set0AtHL, some .set0A,
    some .set1B, some .set1C, some .set1D, some .set1E, some .set1H, some .set1L, some .set1AtHL, some .set1A] := by decide

theorem test_decode_cb_D : decodedCb [0xD0#8, 0xD1#8, 0xD2#8, 0xD3#8, 0xD4#8, 0xD5#8, 0xD6#8, 0xD7#8, 0xD8#8, 0xD9#8, 0xDA#8, 0xDB#8, 0xDC#8, 0xDD#8, 0xDE#8, 0xDF#8] = [
    some .set2B, some .set2C, some .set2D, some .set2E, some .set2H, some .set2L, some .set2AtHL, some .set2A,
    some .set3B, some .set3C, some .set3D, some .set3E, some .set3H, some .set3L, some .set3AtHL, some .set3A] := by decide

theorem test_decode_cb_E : decodedCb [0xE0#8, 0xE1#8, 0xE2#8, 0xE3#8, 0xE4#8, 0xE5#8, 0xE6#8, 0xE7#8, 0xE8#8, 0xE9#8, 0xEA#8, 0xEB#8, 0xEC#8, 0xED#8, 0xEE#8, 0xEF#8] = [
    some .set4B, some .set4C, some .set4D, some .set4E, some .set4H, some .set4L, some .set4AtHL, some .set4A,
    some .set5B, some .set5C, some .set5D, some .set5E, some .set5H, some .set5L, some .set5AtHL, some .set5A] := by decide

theorem test_decode_cb_F : decodedCb [0xF0#8, 0xF1#8, 0xF2#8, 0xF3#8, 0xF4#8, 0xF5#8, 0xF6#8, 0xF7#8, 0xF8#8, 0xF9#8, 0xFA#8, 0xFB#8, 0xFC#8, 0xFD#8, 0xFE#8, 0xFF#8] = [
    some .set6B, some .set6C, some .set6D, some .set6E, some .set6H, some .set6L, some .set6AtHL, some .set6A,
    some .set7B, some .set7C, some .set7D, some .set7E, some .set7H, some .set7L, some .set7AtHL, some .set7A] := by decide

/-- Bytes that do not make an instruction: none at all, and an immediate or a table byte missing. -/
theorem test_decode_needs_all_bytes :
    decode [] = .error .noBytes ∧ decode [0x06#8] = .error (.missingImmediate 0x06#8) ∧
    decode [0x01#8, 0x34#8] = .error (.missingImmediate 0x01#8) := by decide

/-- The opcode table's own numbering: `match` 0x80, 0x01 and 0xCB7C (log entry 5). -/
theorem test_table_words :
    decodeTableWord 8 0x80 = some .addAB ∧ decodeTableWord 8 0x01 = some (.ldBCImm 0#16) ∧
    decodeTableWord 16 0xCB7C = some .bit7H ∧ decodeTableWord 8 0xCB = some .prefixCb := by decide

/-- The same words as first instruction after reset. -/
theorem test_with_fetch_word :
    step (State.reset.withFetchWord 8 0x3C) =
      .next { State.reset.withFetchWord 8 0x3C with
        a := 1#8, pc := 1#16, bus := [.read 0#16 0x3C#8], cycles := 4 } := rfl

theorem test_with_fetch_word_cb :
    step (State.reset.withFetchWord 16 0xCBC7) =
      .next { State.reset.withFetchWord 16 0xCBC7 with
        a := 1#8, pc := 2#16, bus := [.read 0#16 0xCB#8, .read 1#16 0xC7#8], cycles := 8 } := rfl

/-- A halted block is woken so that it fetches (log entry 7). -/
theorem test_with_fetch_word_wakes :
    (after { base with halted := true } [0x3C#8]).map (·.a) = some 0#8 ∧
    (match step ({ base with halted := true }.withFetchWord 8 0x3C) with
      | .next t => t.a
      | _ => 0#8) = 1#8 := by decide

/-! ## Single steps -/

theorem test_step_add_a_b :
    (after { base with a := 0x0F#8, b := 0x01#8 } [0x80#8]).map (fun t => (t.a, t.f)) = some (0x10#8, 0x20#8) := by decide

theorem test_step_add_a_hl :
    (after (put 0xC000#16 0xC6#8 { base with a := 0x3A#8, h := 0xC0#8, l := 0x00#8 }) [0x86#8]).map (fun t => (t.a, t.f)) = some (0x00#8, 0xB0#8) := by decide

theorem test_step_adc_a_0x3b :
    (after { base with a := 0xE1#8, f := 0x10#8 } [0xCE#8, 0x3B#8]).map (fun t => t.a) = some 0x1D#8 := by decide

theorem test_step_sub_a :
    (after { base with a := 0x5C#8, f := 0x10#8 } [0x97#8]).map (fun t => (t.a, t.f)) = some (0x00#8, 0xC0#8) := by decide

theorem test_step_sbc_a_hl :
    (after (put 0xC000#16 0x4F#8 { base with a := 0x3B#8, f := 0x10#8, h := 0xC0#8, l := 0x00#8 }) [0x9E#8]).map (fun t => (t.a, t.f)) = some (0xEB#8, 0x70#8) := by decide

theorem test_step_and_0x0f :
    (after { base with a := 0xF0#8, f := 0x10#8 } [0xE6#8, 0x0F#8]).map (fun t => (t.a, t.f)) = some (0x00#8, 0xA0#8) := by decide

theorem test_step_xor_a :
    (after { base with a := 0x77#8, f := 0xF0#8 } [0xAF#8]).map (fun t => (t.a, t.f)) = some (0x00#8, 0x80#8) := by decide

theorem test_step_or_hl :
    (after (put 0x8000#16 0x00#8 { base with a := 0x00#8, h := 0x80#8, l := 0x00#8 }) [0xB6#8]).map (fun t => t.f) = some 0x80#8 := by decide

theorem test_step_cp_0x90 :
    (after { base with a := 0x90#8 } [0xFE#8, 0x90#8]).map (fun t => t.f) = some 0xC0#8 := by decide

theorem test_step_cp_l :
    (after { base with a := 0x10#8, h := 0x00#8, l := 0x11#8 } [0xBD#8]).map (fun t => t.f) = some 0x70#8 := by decide

theorem test_step_inc_b :
    (after { base with b := 0xFF#8, f := 0x10#8 } [0x04#8]).map (fun t => (t.f, t.b)) = some (0xB0#8, 0x00#8) := by decide

theorem test_step_inc_hl :
    (after (put 0xC123#16 0x0F#8 { base with h := 0xC1#8, l := 0x23#8 }) [0x34#8]).map (fun t => (t.f, t.byteAt 0xC123#16)) = some (0x20#8, 0x10#8) := by decide

theorem test_step_dec_hl :
    (after (put 0xC123#16 0x00#8 { base with h := 0xC1#8, l := 0x23#8, f := 0x10#8 }) [0x35#8]).map (fun t => (t.f, t.byteAt 0xC123#16)) = some (0x70#8, 0xFF#8) := by decide

theorem test_step_dec_a :
    (after { base with a := 0x01#8 } [0x3D#8]).map (fun t => (t.a, t.f)) = some (0x00#8, 0xC0#8) := by decide

theorem test_step_daa :
    (after { base with a := 0x7D#8 } [0x27#8]).map (fun t => t.a) = some 0x83#8 := by decide

theorem test_step_daa_2 :
    (after { base with a := 0x4B#8, f := 0x60#8 } [0x27#8]).map (fun t => (t.a, t.f)) = some (0x45#8, 0x40#8) := by decide

theorem test_step_cpl :
    (after { base with a := 0x35#8, f := 0x90#8 } [0x2F#8]).map (fun t => (t.a, t.f)) = some (0xCA#8, 0xF0#8) := by decide

theorem test_step_cpl_2 :
    (after { base with a := 0xFF#8, f := 0x00#8 } [0x2F#8]).map (fun t => (t.a, t.f)) = some (0x00#8, 0x60#8) := by decide

theorem test_step_scf :
    (after { base with f := 0xE0#8 } [0x37#8]).map (fun t => t.f) = some 0x90#8 := by decide

theorem test_step_ccf :
    (after { base with f := 0xF0#8 } [0x3F#8]).map (fun t => t.f) = some 0x80#8 := by decide

theorem test_step_ccf_2 :
    (after { base with f := 0x00#8 } [0x3F#8]).map (fun t => t.f) = some 0x10#8 := by decide

theorem test_step_add_hl_bc :
    (after { base with h := 0x8A#8, l := 0x23#8, b := 0x06#8, c := 0x05#8, f := 0x80#8 } [0x09#8]).map (fun t => (t.f, t.h, t.l)) = some (0xA0#8, 0x90#8, 0x28#8) := by decide

theorem test_step_add_hl_hl :
    (after { base with h := 0x8A#8, l := 0x23#8 } [0x29#8]).map (fun t => (t.f, t.h, t.l)) = some (0x30#8, 0x14#8, 0x46#8) := by decide

theorem test_step_add_hl_de :
    (after { base with h := 0xFF#8, l := 0xFF#8, d := 0x00#8, e := 0x01#8, f := 0x40#8 } [0x19#8]).map (fun t => (t.f, t.h, t.l)) = some (0x30#8, 0x00#8, 0x00#8) := by decide

theorem test_step_add_hl_sp :
    (after { base with h := 0xF0#8, l := 0x00#8, sp := 0x1000#16 } [0x39#8]).map (fun t => (t.f, t.h)) = some (0x10#8, 0x00#8) := by decide

theorem test_step_add_hl_bc_2 :
    (after { base with h := 0x08#8, l := 0x00#8, b := 0x08#8, c := 0x00#8 } [0x09#8]).map (fun t => (t.f, t.h)) = some (0x20#8, 0x10#8) := by decide

theorem test_step_inc_bc :
    (after { base with b := 0xFF#8, c := 0xFF#8, f := 0xF0#8 } [0x03#8]).map (fun t => (t.b, t.c)) = some (0x00#8, 0x00#8) := by decide

theorem test_step_inc_sp :
    (after { base with sp := 0xFFFF#16 } [0x33#8]).map (fun t => t.sp) = some 0x0000#16 := by decide

theorem test_step_dec_de :
    (after { base with d := 0x00#8, e := 0x00#8, f := 0x00#8 } [0x1B#8]).map (fun t => (t.d, t.e)) = some (0xFF#8, 0xFF#8) := by decide

theorem test_step_dec_hl_2 :
    (after { base with h := 0x10#8, l := 0x00#8 } [0x2B#8]).map (fun t => (t.h, t.l)) = some (0x0F#8, 0xFF#8) := by decide

theorem test_step_add_sp_plus_2 :
    (after { base with sp := 0xFFF8#16, f := 0xF0#8 } [0xE8#8, 0x02#8]).map (fun t => (t.f, t.sp)) = some (0x00#8, 0xFFFA#16) := by decide

theorem test_step_add_sp_plus_8 :
    (after { base with sp := 0xFFF8#16 } [0xE8#8, 0x08#8]).map (fun t => (t.f, t.sp)) = some (0x30#8, 0x0000#16) := by decide

theorem test_step_ld_hl_sp_plus_0x7f :
    (after { base with sp := 0x00FF#16 } [0xF8#8, 0x7F#8]).map (fun t => (t.f, t.h, t.l)) = some (0x30#8, 0x01#8, 0x7E#8) := by decide

theorem test_step_ld_hl_sp_minus_128 :
    (after { base with sp := 0x1000#16, f := 0xF0#8 } [0xF8#8, 0x80#8]).map (fun t => (t.f, t.h, t.l)) = some (0x00#8, 0x0F#8, 0x80#8) := by decide

theorem test_step_rlca :
    (after { base with a := 0x85#8, f := 0xE0#8 } [0x07#8]).map (fun t => (t.a, t.f)) = some (0x0B#8, 0x10#8) := by decide

theorem test_step_rrca :
    (after { base with a := 0x01#8 } [0x0F#8]).map (fun t => (t.a, t.f)) = some (0x80#8, 0x10#8) := by decide

theorem test_step_rla :
    (after { base with a := 0x80#8 } [0x17#8]).map (fun t => (t.a, t.f)) = some (0x00#8, 0x10#8) := by decide

theorem test_step_rla_2 :
    (after { base with a := 0x00#8, f := 0x10#8 } [0x17#8]).map (fun t => (t.a, t.f)) = some (0x01#8, 0x00#8) := by decide

theorem test_step_rra :
    (after { base with a := 0x01#8, f := 0x00#8 } [0x1F#8]).map (fun t => (t.a, t.f)) = some (0x00#8, 0x10#8) := by decide

theorem test_step_rra_2 :
    (after { base with a := 0x00#8, f := 0x80#8 } [0x1F#8]).map (fun t => t.f) = some 0x00#8 := by decide

theorem test_step_rlc_b :
    (after { base with b := 0x85#8 } [0xCB#8, 0x00#8]).map (fun t => (t.f, t.b)) = some (0x10#8, 0x0B#8) := by decide

theorem test_step_rlc_a :
    (after { base with a := 0x00#8, f := 0x70#8 } [0xCB#8, 0x07#8]).map (fun t => t.f) = some 0x80#8 := by decide

theorem test_step_rrc_hl :
    (after (put 0xC000#16 0x01#8 { base with h := 0xC0#8, l := 0x00#8 }) [0xCB#8, 0x0E#8]).map (fun t => (t.f, t.byteAt 0xC000#16)) = some (0x10#8, 0x80#8) := by decide

theorem test_step_rl_c :
    (after { base with c := 0x80#8 } [0xCB#8, 0x11#8]).map (fun t => (t.f, t.c)) = some (0x90#8, 0x00#8) := by decide

theorem test_step_rr_hl :
    (after (put 0xC000#16 0x00#8 { base with h := 0xC0#8, l := 0x00#8, f := 0x10#8 }) [0xCB#8, 0x1E#8]).map (fun t => (t.f, t.byteAt 0xC000#16)) = some (0x00#8, 0x80#8) := by decide

theorem test_step_sla_d :
    (after { base with d := 0xFF#8 } [0xCB#8, 0x22#8]).map (fun t => (t.f, t.d)) = some (0x10#8, 0xFE#8) := by decide

theorem test_step_sra_e :
    (after { base with e := 0x81#8 } [0xCB#8, 0x2B#8]).map (fun t => (t.f, t.e)) = some (0x10#8, 0xC0#8) := by decide

theorem test_step_swap_hl :
    (after (put 0xC000#16 0xF1#8 { base with h := 0xC0#8, l := 0x00#8, f := 0xF0#8 }) [0xCB#8, 0x36#8]).map (fun t => (t.f, t.byteAt 0xC000#16)) = some (0x00#8, 0x1F#8) := by decide

theorem test_step_swap_a :
    (after { base with a := 0x00#8, f := 0x70#8 } [0xCB#8, 0x37#8]).map (fun t => t.f) = some 0x80#8 := by decide

theorem test_step_srl_h :
    (after { base with h := 0x01#8, l := 0x00#8 } [0xCB#8, 0x3C#8]).map (fun t => (t.f, t.h)) = some (0x90#8, 0x00#8) := by decide

theorem test_step_srl_hl :
    (after (put 0xC000#16 0xFF#8 { base with h := 0xC0#8, l := 0x00#8 }) [0xCB#8, 0x3E#8]).map (fun t => (t.f, t.byteAt 0xC000#16)) = some (0x10#8, 0x7F#8) := by decide

theorem test_step_bit_7_h :
    (after { base with h := 0x00#8, l := 0x00#8, f := 0x10#8 } [0xCB#8, 0x7C#8]).map (fun t => t.f) = some 0xB0#8 := by decide

theorem test_step_bit_7_h_2 :
    (after { base with h := 0x80#8, l := 0x00#8, f := 0xD0#8 } [0xCB#8, 0x7C#8]).map (fun t => t.f) = some 0x30#8 := by decide

theorem test_step_bit_0_hl :
    (after (put 0xC000#16 0xFE#8 { base with h := 0xC0#8, l := 0x00#8 }) [0xCB#8, 0x46#8]).map (fun t => t.f) = some 0xA0#8 := by decide

theorem test_step_bit_4_a :
    (after { base with a := 0x10#8, f := 0x80#8 } [0xCB#8, 0x67#8]).map (fun t => t.f) = some 0x20#8 := by decide

theorem test_step_res_0_a :
    (after { base with a := 0xFF#8, f := 0xF0#8 } [0xCB#8, 0x87#8]).map (fun t => t.a) = some 0xFE#8 := by decide

theorem test_step_res_7_hl :
    (after (put 0xC000#16 0xFF#8 { base with h := 0xC0#8, l := 0x00#8 }) [0xCB#8, 0xBE#8]).map (fun t => t.byteAt 0xC000#16) = some 0x7F#8 := by decide

theorem test_step_res_3_hl :
    (after (put 0xC000#16 0x00#8 { base with h := 0xC0#8, l := 0x00#8 }) [0xCB#8, 0x9E#8]).map (fun t => t.byteAt 0xC000#16) = some 0x00#8 := by decide

theorem test_step_set_3_b :
    (after { base with b := 0x00#8 } [0xCB#8, 0xD8#8]).map (fun t => t.b) = some 0x08#8 := by decide

theorem test_step_set_7_hl :
    (after (put 0xC000#16 0x00#8 { base with h := 0xC0#8, l := 0x00#8 }) [0xCB#8, 0xFE#8]).map (fun t => t.byteAt 0xC000#16) = some 0x80#8 := by decide

theorem test_step_set_0_l :
    (after { base with h := 0x12#8, l := 0x01#8, f := 0x50#8 } [0xCB#8, 0xC5#8]).map (fun t => (t.pc, t.f)) = some (0x0102#16, 0x50#8) := by decide

theorem test_step_ld_b_c :
    (after { base with b := 0x11#8, c := 0x22#8, f := 0xF0#8 } [0x41#8]).map (fun t => t.b) = some 0x22#8 := by decide

theorem test_step_ld_a_a :
    (after { base with a := 0x5A#8 } [0x7F#8]).map (fun t => (t.pc, t.f)) = some (0x0101#16, 0x00#8) := by decide

theorem test_step_ld_h_hl :
    (after (put 0xC010#16 0x99#8 { base with h := 0xC0#8, l := 0x10#8 }) [0x66#8]).map (fun t => t.h) = some 0x99#8 := by decide

theorem test_step_ld_hl_l :
    (after { base with h := 0xC0#8, l := 0x10#8 } [0x75#8]).map (fun t => t.byteAt 0xC010#16) = some 0x10#8 := by decide

theorem test_step_ld_e_0x7f :
    (after base [0x1E#8, 0x7F#8]).map (fun t => t.e) = some 0x7F#8 := by decide

theorem test_step_ld_hl_0x42 :
    (after { base with h := 0xC0#8, l := 0xFF#8 } [0x36#8, 0x42#8]).map (fun t => t.byteAt 0xC0FF#16) = some 0x42#8 := by decide

theorem test_step_ld_a_bc :
    (after (put 0xC001#16 0x2F#8 { base with b := 0xC0#8, c := 0x01#8 }) [0x0A#8]).map (fun t => t.a) = some 0x2F#8 := by decide

theorem test_step_ld_a_de :
    (after (put 0xC002#16 0x5F#8 { base with d := 0xC0#8, e := 0x02#8 }) [0x1A#8]).map (fun t => t.a) = some 0x5F#8 := by decide

theorem test_step_ld_bc_a :
    (after { base with a := 0x3F#8, b := 0x20#8, c := 0x5F#8 } [0x02#8]).map (fun t => t.byteAt 0x205F#16) = some 0x3F#8 := by decide

theorem test_step_ld_de_a :
    (after (put 0x205C#16 0xAA#8 { base with a := 0x00#8, d := 0x20#8, e := 0x5C#8 }) [0x12#8]).map (fun t => t.byteAt 0x205C#16) = some 0x00#8 := by decide

theorem test_step_ld_at_hl_inc_a :
    (after { base with a := 0x56#8, h := 0xFF#8, l := 0xFF#8 } [0x22#8]).map (fun t => (t.h, t.l, t.byteAt 0xFFFF#16)) = some (0x00#8, 0x00#8, 0x56#8) := by decide

theorem test_step_ld_at_hl_dec_a :
    (after { base with a := 0x05#8, h := 0x40#8, l := 0x00#8 } [0x32#8]).map (fun t => (t.h, t.l, t.byteAt 0x4000#16)) = some (0x3F#8, 0xFF#8, 0x05#8) := by decide

theorem test_step_ld_a_at_hl_inc :
    (after (put 0x01FF#16 0x56#8 { base with h := 0x01#8, l := 0xFF#8 }) [0x2A#8]).map (fun t => (t.a, t.h, t.l)) = some (0x56#8, 0x02#8, 0x00#8) := by decide

theorem test_step_ld_a_at_hl_dec :
    (after (put 0x0000#16 0x3C#8 { base with pc := 0x0200#16, h := 0x00#8, l := 0x00#8 }) [0x3A#8]).map (fun t => (t.a, t.h, t.l)) = some (0x3C#8, 0xFF#8, 0xFF#8) := by decide

theorem test_step_ldh_0x80_a :
    (after { base with a := 0x3E#8 } [0xE0#8, 0x80#8]).map (fun t => t.byteAt 0xFF80#16) = some 0x3E#8 := by decide

theorem test_step_ldh_a_0x44 :
    (after (put 0xFF44#16 0x90#8 base) [0xF0#8, 0x44#8]).map (fun t => t.a) = some 0x90#8 := by decide

theorem test_step_ld_c_a :
    (after { base with a := 0x77#8, c := 0x9F#8 } [0xE2#8]).map (fun t => t.byteAt 0xFF9F#16) = some 0x77#8 := by decide

theorem test_step_ld_a_c :
    (after (put 0xFF95#16 0x0A#8 { base with c := 0x95#8 }) [0xF2#8]).map (fun t => t.a) = some 0x0A#8 := by decide

theorem test_step_ld_0xc100_a :
    (after { base with a := 0x12#8 } [0xEA#8, 0x00#8, 0xC1#8]).map (fun t => t.byteAt 0xC100#16) = some 0x12#8 := by decide

theorem test_step_ld_a_0xffff :
    (after (put 0xFFFF#16 0x1F#8 base) [0xFA#8, 0xFF#8, 0xFF#8]).map (fun t => t.a) = some 0x1F#8 := by decide

theorem test_step_ld_bc_0x1234 :
    (after base [0x01#8, 0x34#8, 0x12#8]).map (fun t => (t.b, t.c)) = some (0x12#8, 0x34#8) := by decide

theorem test_step_ld_sp_0xd000 :
    (after base [0x31#8, 0x00#8, 0xD0#8]).map (fun t => t.sp) = some 0xD000#16 := by decide

theorem test_step_ld_hl_0x8a5c :
    (after base [0x21#8, 0x5C#8, 0x8A#8]).map (fun t => (t.h, t.l)) = some (0x8A#8, 0x5C#8) := by decide

theorem test_step_ld_0xc100_sp :
    (after { base with sp := 0xFFF8#16 } [0x08#8, 0x00#8, 0xC1#8]).map (fun t => (t.byteAt 0xC100#16, t.byteAt 0xC101#16)) = some (0xF8#8, 0xFF#8) := by decide

theorem test_step_ld_0xffff_sp :
    (after { base with sp := 0x1234#16 } [0x08#8, 0xFF#8, 0xFF#8]).map (fun t => (t.byteAt 0x0000#16, t.byteAt 0xFFFF#16)) = some (0x12#8, 0x34#8) := by decide

theorem test_step_ld_sp_hl :
    (after { base with h := 0xD0#8, l := 0x00#8 } [0xF9#8]).map (fun t => t.sp) = some 0xD000#16 := by decide

theorem test_step_push_bc :
    (after { base with b := 0x12#8, c := 0x34#8 } [0xC5#8]).map (fun t => (t.sp, t.byteAt 0xFFFC#16, t.byteAt 0xFFFD#16)) = some (0xFFFC#16, 0x34#8, 0x12#8) := by decide

theorem test_step_push_af :
    (after { base with a := 0x12#8, f := 0xB0#8, sp := 0xD000#16 } [0xF5#8]).map (fun t => (t.sp, t.byteAt 0xCFFE#16, t.byteAt 0xCFFF#16)) = some (0xCFFE#16, 0xB0#8, 0x12#8) := by decide

theorem test_step_push_hl :
    (after { base with h := 0xBE#8, l := 0xEF#8, sp := 0x0001#16 } [0xE5#8]).map (fun t => (t.sp, t.byteAt 0x0000#16, t.byteAt 0xFFFF#16)) = some (0xFFFF#16, 0xBE#8, 0xEF#8) := by decide

theorem test_step_pop_bc :
    (after (put 0xFFFD#16 0x3C#8 (put 0xFFFC#16 0x5F#8 { base with sp := 0xFFFC#16 })) [0xC1#8]).map (fun t => (t.b, t.c, t.sp)) = some (0x3C#8, 0x5F#8, 0xFFFE#16) := by decide

theorem test_step_pop_af :
    (after (put 0xFFFD#16 0x12#8 (put 0xFFFC#16 0xFF#8 { base with sp := 0xFFFC#16 })) [0xF1#8]).map (fun t => (t.a, t.f, t.sp)) = some (0x12#8, 0xF0#8, 0xFFFE#16) := by decide

theorem test_step_pop_de :
    (after (put 0x0000#16 0xAB#8 (put 0xFFFF#16 0xCD#8 { base with sp := 0xFFFF#16 })) [0xD1#8]).map (fun t => (t.d, t.e, t.sp)) = some (0xAB#8, 0xCD#8, 0x0001#16) := by decide

theorem test_step_jr_plus_5 :
    (after base [0x18#8, 0x05#8]).map (fun t => t.pc) = some 0x0107#16 := by decide

theorem test_step_jr_minus_2 :
    (after base [0x18#8, 0xFE#8]).map (fun t => t.pc) = some 0x0100#16 := by decide

theorem test_step_jr_nz_plus_5_z_1 :
    (after { base with f := 0x80#8 } [0x20#8, 0x05#8]).map (fun t => t.pc) = some 0x0102#16 := by decide

theorem test_step_jr_nz_plus_5_z_0 :
    (after { base with f := 0x00#8 } [0x20#8, 0x05#8]).map (fun t => t.pc) = some 0x0107#16 := by decide

theorem test_step_jr_z_minus_4_z_1 :
    (after { base with f := 0x80#8 } [0x28#8, 0xFC#8]).map (fun t => t.pc) = some 0x00FE#16 := by decide

theorem test_step_jr_nc_plus_1_c_1 :
    (after { base with f := 0x10#8 } [0x30#8, 0x01#8]).map (fun t => t.pc) = some 0x0102#16 := by decide

theorem test_step_jr_c_plus_1_c_1 :
    (after { base with f := 0x10#8 } [0x38#8, 0x01#8]).map (fun t => t.pc) = some 0x0103#16 := by decide

theorem test_step_jp_0x0150 :
    (after base [0xC3#8, 0x50#8, 0x01#8]).map (fun t => t.pc) = some 0x0150#16 := by decide

theorem test_step_jp_z_0x8000_z_1 :
    (after { base with f := 0x80#8 } [0xCA#8, 0x00#8, 0x80#8]).map (fun t => t.pc) = some 0x8000#16 := by decide

theorem test_step_jp_z_0x8000_z_0 :
    (after { base with f := 0x00#8 } [0xCA#8, 0x00#8, 0x80#8]).map (fun t => t.pc) = some 0x0103#16 := by decide

theorem test_step_jp_nc_0x1234_c_0 :
    (after base [0xD2#8, 0x34#8, 0x12#8]).map (fun t => t.pc) = some 0x1234#16 := by decide

theorem test_step_jp_c_0x1234_c_0 :
    (after base [0xDA#8, 0x34#8, 0x12#8]).map (fun t => t.pc) = some 0x0103#16 := by decide

theorem test_step_jp_hl :
    (after (put 0x8000#16 0x55#8 { base with h := 0x80#8, l := 0x00#8 }) [0xE9#8]).map (fun t => t.pc) = some 0x8000#16 := by decide

theorem test_step_call_0x4000 :
    (after base [0xCD#8, 0x00#8, 0x40#8]).map (fun t => (t.pc, t.sp, t.byteAt 0xFFFC#16, t.byteAt 0xFFFD#16)) = some (0x4000#16, 0xFFFC#16, 0x03#8, 0x01#8) := by decide

theorem test_step_call_nc_0x2000_c_0 :
    (after { base with pc := 0x0200#16, sp := 0xD000#16 } [0xD4#8, 0x00#8, 0x20#8]).map (fun t => (t.pc, t.sp, t.byteAt 0xCFFE#16, t.byteAt 0xCFFF#16)) = some (0x2000#16, 0xCFFE#16, 0x03#8, 0x02#8) := by decide

theorem test_step_call_nc_0x2000_c_1 :
    (after { base with pc := 0x0200#16, sp := 0xD000#16, f := 0x10#8 } [0xD4#8, 0x00#8, 0x20#8]).map (fun t => t.pc) = some 0x0203#16 := by decide

theorem test_step_call_z_0x2000_z_0 :
    (after { base with sp := 0xD000#16 } [0xCC#8, 0x00#8, 0x20#8]).map (fun t => t.pc) = some 0x0103#16 := by decide

theorem test_step_ret :
    (after (put 0xFFFD#16 0x01#8 (put 0xFFFC#16 0x03#8 { base with pc := 0x4000#16, sp := 0xFFFC#16 })) [0xC9#8]).map (fun t => (t.pc, t.sp)) = some (0x0103#16, 0xFFFE#16) := by decide

theorem test_step_ret_nz_z_1 :
    (after (put 0xFFFD#16 0x01#8 (put 0xFFFC#16 0x03#8 { base with pc := 0x4000#16, f := 0x80#8, sp := 0xFFFC#16 })) [0xC0#8]).map (fun t => t.pc) = some 0x4001#16 := by decide

theorem test_step_ret_nz_z_0 :
    (after (put 0xFFFD#16 0x01#8 (put 0xFFFC#16 0x03#8 { base with pc := 0x4000#16, sp := 0xFFFC#16 })) [0xC0#8]).map (fun t => (t.pc, t.sp)) = some (0x0103#16, 0xFFFE#16) := by decide

theorem test_step_ret_c_c_1 :
    (after (put 0xFFFD#16 0x01#8 (put 0xFFFC#16 0x03#8 { base with pc := 0x4000#16, f := 0x10#8, sp := 0xFFFC#16 })) [0xD8#8]).map (fun t => (t.pc, t.sp)) = some (0x0103#16, 0xFFFE#16) := by decide

theorem test_step_reti :
    (after (put 0xFFFD#16 0x01#8 (put 0xFFFC#16 0x50#8 { base with pc := 0x0040#16, sp := 0xFFFC#16 })) [0xD9#8]).map (fun t => (t.pc, t.sp, t.ime)) = some (0x0150#16, 0xFFFE#16, true) := by decide

theorem test_step_rst_28h :
    (after { base with pc := 0x0150#16 } [0xEF#8]).map (fun t => (t.pc, t.sp, t.byteAt 0xFFFC#16, t.byteAt 0xFFFD#16)) = some (0x0028#16, 0xFFFC#16, 0x51#8, 0x01#8) := by decide

theorem test_step_rst_00h :
    (after { base with pc := 0x1234#16, sp := 0x0002#16 } [0xC7#8]).map (fun t => (t.pc, t.sp, t.byteAt 0x0000#16, t.byteAt 0x0001#16)) = some (0x0000#16, 0x0000#16, 0x35#8, 0x12#8) := by decide

theorem test_step_rst_38h :
    (after { base with pc := 0xFFFF#16 } [0xFF#8]).map (fun t => (t.pc, t.sp, t.byteAt 0xFFFC#16, t.byteAt 0xFFFD#16)) = some (0x0038#16, 0xFFFC#16, 0x00#8, 0x00#8) := by decide

theorem test_step_nop :
    (after { base with f := 0xF0#8 } [0x00#8]).map (fun t => (t.pc, t.f)) = some (0x0101#16, 0xF0#8) := by decide

theorem test_step_halt :
    (after { base with pc := 0x0150#16 } [0x76#8]).map (fun t => t.halted) = some true := by decide

theorem test_step_ei :
    (after base [0xFB#8]).map (fun t => t.ime) = some true := by decide

theorem test_step_ei_ime_1 :
    (after { base with ime := true } [0xFB#8]).map (fun t => (t.pc, t.f)) = some (0x0101#16, 0x00#8) := by decide

theorem test_step_di :
    (after { base with ime := true } [0xF3#8]).map (fun t => t.ime) = some false := by decide

theorem test_step_reserved_d3 :
    (after { base with f := 0xF0#8, ime := true } [0xD3#8, 0x12#8, 0x34#8]).map (fun t => (t.pc, t.f)) = some (0x0101#16, 0xF0#8) := by decide

theorem test_step_reserved_fd :
    (after { base with f := 0xF0#8, ime := true } [0xFD#8, 0x12#8, 0x34#8]).map (fun t => (t.pc, t.f)) = some (0x0101#16, 0xF0#8) := by decide

theorem test_step_ld_bc_0x1234_across_the_wrap :
    (after { base with pc := 0xFFFF#16 } [0x01#8, 0x34#8, 0x12#8]).map (fun t => t.pc) = some 0x0002#16 := by decide

theorem test_step_ld_a_0x77_at_0xffff :
    (after { base with pc := 0xFFFF#16 } [0x3E#8, 0x77#8]).map (fun t => t.pc) = some 0x0001#16 := by decide

/-- The transactions of a step in order, addresses as computed: `LD (a16),SP` at the top of memory (R221, R57). -/
theorem test_bus_of_ld_at_imm_sp :
    (after { base with sp := 0x1234#16 } [0x08#8, 0xFF#8, 0xFF#8]).map (fun t => (t.bus, t.cycles)) =
      some ([.read 0x0100#16 0x08#8, .read 0x0101#16 0xFF#8, .read 0x0102#16 0xFF#8,
        .write 0xFFFF#16 0x34#8, .write 0x0000#16 0x12#8], 20) := by decide

/-- A CB instruction on `(HL)`: two fetches, one read, one write (R62, R60). -/
theorem test_bus_of_rrc_at_hl :
    (after (put 0xC000#16 0x01#8 { base with h := 0xC0#8 }) [0xCB#8, 0x0E#8]).map (fun t => (t.bus, t.cycles)) =
      some ([.read 0x0100#16 0xCB#8, .read 0x0101#16 0x0E#8, .read 0xC000#16 0x01#8, .write 0xC000#16 0x80#8],
        16) := by decide

/-- STOP under the four policies (R257): the length it takes, and the refusal. -/
theorem test_stop_policies :
    (after { base with cfg := ⟨.nop1, .flagsOnly, []⟩ } [0x10#8, 0x00#8]).map (fun t => (t.pc, t.halted)) =
      some (0x0101#16, false) ∧
    (after { base with cfg := ⟨.nop2, .flagsOnly, []⟩ } [0x10#8, 0x00#8]).map (fun t => (t.pc, t.halted)) =
      some (0x0102#16, false) ∧
    (after { base with cfg := ⟨.halt, .flagsOnly, []⟩ } [0x10#8, 0x00#8]).map (fun t => (t.pc, t.halted)) =
      some (0x0101#16, true) ∧
    (after { base with cfg := ⟨.refuse, .flagsOnly, []⟩ } [0x10#8, 0x00#8]).map (fun t => (t.pc, t.halted)) = none := by
  decide

/-- The byte 0x10 as the first instruction after reset: refused under the default of R7, run under the policy that
`State.reset` supplies (log entry 1). -/
theorem test_stop_after_reset :
    step (State.resetDefault.withFetchWord 8 0x10) = .refused .stopNotSpecified ∧
    (match step (State.reset.withFetchWord 8 0x10) with
      | .next t => some t.pc
      | _ => none) = some 0x0001#16 := ⟨rfl, by decide⟩

/-- DAA after a subtraction under `DAA_SUB_MODE = sameConditions` (R140): 0x7D with N set. -/
theorem test_daa_same_conditions :
    (after { base with a := 0x7D#8, f := 0x40#8, cfg := ⟨.nop1, .sameConditions, []⟩ } [0x27#8]).map
      (fun t => (t.a, t.f)) = some (0x77#8, 0x40#8) := by decide

/-- The memory stays canonical: storing what an unlisted byte reads as removes the cell (R51, log entry 3). -/
theorem test_memory_is_canonical :
    (after (put 0x205C#16 0xAA#8 { base with d := 0x20#8, e := 0x5C#8 }) [0x12#8]).map (·.mem) =
      some [(0x0100, 0x12#8)] := by decide

/-- Interrupt entry from a halted block with `ime` = 1 (R280). -/
theorem test_int_entry :
    (hostAction (.intEntry .timer) { base with ime := true, halted := true, pc := 0x0151#16 }).map
      (fun t => (t.pc, t.ime, t.halted)) = some (0x0050#16, false, false) ∧
    (hostAction (.intEntry .timer) { base with ime := true, pc := 0x0151#16 }).map
      (fun t => (t.sp, t.byteAt 0xFFFC#16, t.byteAt 0xFFFD#16)) = some (0xFFFC#16, 0x51#8, 0x01#8) := by decide

theorem test_wake_keeps_ime :
    (hostAction .wake { base with ime := true, halted := true }).map (fun t => (t.ime, t.halted, t.pc)) =
      some (true, false, 0x0100#16) := by decide

theorem test_reset_keeps_nothing :
    (hostAction (.reset []) { base with a := 5#8, ime := true, halted := true, sp := 3#16 }).map
      (fun t => (t.a, t.ime, t.halted)) = some (0#8, false, false) := by decide

/-- An oracle behind the bus: the fetch and the data read take its answers in order, and the flat memory is neither read
nor written (R51, R53). -/
theorem test_oracle_answers_reads :
    (match step { base with attached := .oracle [0x34#8, 0x7F#8] 0, h := 0xC0#8 } with
      | .next t => some (t.bus, t.attached, t.mem, t.f)
      | _ => none) =
      some ([.read 0x0100#16 0x34#8, .read 0xC000#16 0x7F#8, .write 0xC000#16 0x80#8],
        .oracle [0x34#8, 0x7F#8] 2, [], 0x20#8) := by decide

/-- The costs of `JR NZ` taken and not taken, and of `LD A,(HL)`, from the rows of R313. -/
theorem test_cycles_of_conditional_jump :
    (after base [0x20#8, 0x05#8]).map (fun t => (t.pc, t.cycles)) = some (0x0107#16, 12) ∧
    (after { base with f := 0x80#8 } [0x20#8, 0x05#8]).map (fun t => (t.pc, t.cycles)) = some (0x0102#16, 8) ∧
    (after base [0x7E#8]).map (·.cycles) = some 8 := by decide

/-- `CYCLES` as an argument (R7): a listed cost counts for its own key alone, and at least as 1 (R312). -/
theorem test_cycles_override :
    (let s := { base with cfg := ⟨.nop1, .flagsOnly, [(.entry .primary 0x00#8 true, 7), (.idle, 0)]⟩ }
     (after s [0x00#8]).map (·.cycles) = some 7 ∧ (after s [0x04#8]).map (·.cycles) = some 4 ∧
     (after { s with halted := true } []).map (·.cycles) = some 1) := by decide

/-! ## Witnesses: for every statement with hypotheses, a state and operands that meet them together. Each clause of a
statement has one, at a boundary value where it has a range. -/

/-- A legal state whose memory and flags are not empty. -/
def sample : State :=
  { put 0x0100#16 0x04#8 base with b := 0xFF#8, f := 0xF0#8, ime := true }

/-- The two reset states are two. -/
theorem witness_ResetStateValues :
    ∃ t u : State, t = State.reset ∧ u = State.resetDefault ∧ t ≠ u := ⟨_, _, rfl, rfl, by decide⟩

theorem witness_ResetVectorIsAConstant :
    (∃ t, step (hostReset [(0, 0x76#8)] sample) = .next t) ∧ sample.attached = .flat := ⟨⟨_, rfl⟩, rfl⟩

/-- A step, and each host action from a state that allows it. -/
theorem witness_StepKeepsLegalState :
    (sample.Inv ∧ ∃ t, step sample = .next t) ∧
    (HostAction.imageOk (.reset [(0xFFFF, 1#8)]) ∧ ∃ t, hostAction (.reset [(0xFFFF, 1#8)]) sample = some t) ∧
    (HostAction.imageOk (.intEntry .joypad) ∧ ∃ t, hostAction (.intEntry .joypad) sample = some t) ∧
    (HostAction.imageOk .wake ∧ ∃ t, hostAction .wake sample = some t) :=
  ⟨⟨by decide, _, rfl⟩, ⟨by decide, _, rfl⟩, ⟨trivial, _, rfl⟩, trivial, _, rfl⟩

/-- EI run after a Reset with an image that holds it, and an interrupt right after it. -/
theorem witness_ReachableStatesAreLegal :
    sample.Inv ∧
    ∃ t u v, HostAction.imageOk (.reset [(0, 0xFB#8)]) ∧ hostAction (.reset [(0, 0xFB#8)]) sample = some t ∧
      step t = .next u ∧ hostAction (.intEntry .vblank) u = some v ∧ Reaches sample v :=
  ⟨by decide, _, _, _, by decide, rfl, rfl, rfl,
    .action (.intEntry .vblank) (.step (.action (.reset [(0, 0xFB#8)]) (.refl _) (by decide) rfl) rfl) trivial rfl⟩

theorem witness_CanonicalMemoryIsUnique :
    Memory.wf [(3, 1#8), (65535, 2#8)] = true ∧
    Memory.wf (Memory.write (Memory.write [] 65535 2#8) 3 1#8) = true ∧
    ∀ a : Nat, Memory.read [(3, 1#8), (65535, 2#8)] a =
      Memory.read (Memory.write (Memory.write [] 65535 2#8) 3 1#8) a := ⟨by decide, by decide, fun _ => rfl⟩

/-- One, two and three bytes, the last across the wrap of PC. -/
theorem witness_StepRunsDecodedInstruction :
    (sample.halted = false ∧
      decode [sample.byteAt 0x0100#16, sample.byteAfter 1 0x0101#16, sample.byteAfter 2 0x0102#16] =
        .ok (.incB, [0#8, 0#8])) ∧
    (let s := placeBytes 0xFFFF#16 [0xCB#8, 0x7C#8] { base with pc := 0xFFFF#16 }
     s.halted = false ∧
      decode [s.byteAt s.pc, s.byteAfter 1 (s.pc + 1), s.byteAfter 2 (s.pc + 2)] = .ok (.bit7H, [0#8])) ∧
    (let s := placeBytes 0xFFFF#16 [0x01#8, 0x34#8, 0x12#8] { base with pc := 0xFFFF#16 }
     s.halted = false ∧
      decode [s.byteAt s.pc, s.byteAfter 1 (s.pc + 1), s.byteAfter 2 (s.pc + 2)] = .ok (.ldBCImm 0x1234#16, [])) := by
  decide

theorem witness_HaltedStepIsIdle : { base with halted := true }.halted = true := rfl

/-- Both branches: the refused one and a completing one. -/
theorem witness_StepOutcomeIsTotal :
    (let s := { put 0x0100#16 0x10#8 base with cfg := ⟨.refuse, .flagsOnly, []⟩ }
     s.halted = false ∧ s.byteAt s.pc = 0x10#8 ∧ s.cfg.stopPolicy = .refuse) ∧
    ¬(base.halted = false ∧ base.byteAt base.pc = 0x10#8 ∧ base.cfg.stopPolicy = .refuse) := by decide

/-- Awake and halted, with no cost listed. -/
theorem witness_StepOutputsAreBounded :
    (∃ t, step sample = .next t ∧ sample.halted = false ∧ sample.cfg.cycles = []) ∧
    ∃ t, step { sample with halted := true } = .next t := ⟨⟨_, rfl, rfl, rfl⟩, _, rfl⟩

theorem witness_DecodeEncodeRoundTrip :
    Instr.wellFormed (.call 0xFFFF#16) = true ∧ Instr.wellFormed .set7A = true := by decide

theorem witness_EncodeDecodeRoundTrip :
    decode [0xCD#8, 0xFF#8, 0xFF#8, 0x00#8] = .ok (.call 0xFFFF#16, [0x00#8]) ∧
    decode [0xCB#8] = .ok (.prefixCb, []) := by decide

/-- Lengths 1, 2, 3 and the prefix. -/
theorem witness_LengthFollowsFirstByte :
    (decode [0x10#8] = .ok (.stop, []) ∧ Instr.wellFormed .stop = true) ∧
    (decode [0x18#8, 0xFE#8] = .ok (.jr 0xFE#8, []) ∧ Instr.wellFormed (.jr 0xFE#8) = true) ∧
    (decode [0xFA#8, 0xFF#8, 0xFF#8] = .ok (.ldAAtImm 0xFFFF#16, []) ∧
      Instr.wellFormed (.ldAAtImm 0xFFFF#16) = true) ∧
    (decode [0xCB#8, 0xFF#8] = .ok (.set7A, []) ∧ Instr.wellFormed .set7A = true) := by decide

/-- A register, the byte at HL and an immediate, at both ends of the range. -/
theorem witness_DecimalArithmeticIsCorrect :
    (let s := put 0xC000#16 0x99#8 { base with a := 0x99#8, h := 0xC0#8, f := 0x10#8 }
     99 < 100 ∧ s.a = bcd 99 ∧ operandByte .atHl s = bcd 99) ∧
    (0 < 100 ∧ base.a = bcd 0 ∧ operandByte (.reg .b) base = bcd 0) ∧
    ∃ i : AluOp → Instr, i = fun op => aluImmInstr op (bcd 99) := ⟨by decide, by decide, _, rfl⟩

/-- The codes at both ends of each operand field. -/
theorem witness_OpcodesFollowTheFieldPatterns :
    (0 < 4 ∧ Pair.ofCode 0 = .bc) ∧ (3 < 4 ∧ Pair.ofCode 3 = .sp ∧ StackPair.ofCode 3 = .af ∧ Cond.ofCode 3 = .c) ∧
    (0 < 8 ∧ AluOp.ofCode 0 = .add) ∧ (7 < 8 ∧ AluOp.ofCode 7 = .cp ∧ ShiftOp.ofCode 7 = .srl) := by decide

theorem witness_StackRoundTrips :
    sample.attached = .flat ∧ (StackPair.af = .af → sample.f &&& 0x0F#8 = 0#8) := by decide

theorem witness_WordsAreLittleEndian :
    sample.attached = .flat ∧ { sample with attached := .oracle [5#8] 1 }.attached = .oracle [5#8] 1 := ⟨rfl, rfl⟩

/-- The four shapes, with a condition false at both ends of the condition field. -/
theorem witness_UntakenBranchOnlyAdvances :
    (let s := put 0x0100#16 0x20#8 { base with f := 0x80#8 }
     s.halted = false ∧ condHolds (Cond.ofCode 0) s = false ∧ s.byteAt s.pc = BitVec.ofNat 8 (0x20 + 8 * 0)) ∧
    (let s := put 0x0100#16 0xDA#8 base
     s.halted = false ∧ condHolds (Cond.ofCode 3) s = false ∧ s.byteAt s.pc = BitVec.ofNat 8 (0xC2 + 8 * 3)) ∧
    (let s := put 0x0100#16 0xDC#8 base
     s.halted = false ∧ condHolds (Cond.ofCode 3) s = false ∧ s.byteAt s.pc = BitVec.ofNat 8 (0xC4 + 8 * 3)) ∧
    (let s := put 0x0100#16 0xC0#8 { base with f := 0x80#8 }
     s.halted = false ∧ condHolds (Cond.ofCode 0) s = false ∧ s.byteAt s.pc = BitVec.ofNat 8 (0xC0 + 8 * 0)) := by
  decide

theorem witness_NopAndReservedDoNothing :
    let listed := [Instr.nop, .reservedD3, .reservedDB, .reservedDD, .reservedE3, .reservedE4, .reservedEB,
      .reservedEC, .reservedED, .reservedF4, .reservedFC, .reservedFD]
    Instr.nop ∈ listed ∧ Instr.reservedFD ∈ listed := by decide

/-- STOP completes under every policy but `refuse`. -/
theorem witness_StopFollowsPolicy :
    exec .stop { base with cfg := ⟨.nop1, .flagsOnly, []⟩ } = .next { base with cfg := ⟨.nop1, .flagsOnly, []⟩ } := rfl

theorem witness_WakeAndInterruptEntry :
    sample.ime = true ∧ base.ime = false ∧ sample.attached = .flat := by decide

theorem witness_ImeIsWriteOnly :
    (∃ t, exec .ei base = .next t) ∧ (∃ t, exec .reti base = .next t) ∧ (∃ t, exec .di base = .next t) ∧
    ∃ t, exec .addAB base = .next t := ⟨⟨_, rfl⟩, ⟨_, rfl⟩, ⟨_, rfl⟩, _, rfl⟩

theorem witness_OnlyHaltSetsHalted :
    (∃ t, exec .halt base = .next t) ∧ (∃ t, exec .stop { base with cfg := ⟨.halt, .flagsOnly, []⟩ } = .next t) ∧
    ∃ t, exec .nop { base with halted := true } = .next t := ⟨⟨_, rfl⟩, ⟨_, rfl⟩, _, rfl⟩

theorem witness_OtherInstructionsKeepFlags :
    (writesFlags (.ldBImm 0xFF#8) = false ∧ ∃ t, exec (.ldBImm 0xFF#8) sample = .next t) ∧
    (writesFlags .set7A = false ∧ ∃ t, exec .set7A sample = .next t) ∧
    (writesFlags .res0B = false ∧ writesFlags .incBC = false ∧ writesFlags .popBC = false) :=
  ⟨⟨by decide, _, rfl⟩, ⟨by decide, _, rfl⟩, by decide⟩

theorem witness_OtherInstructionsKeepMemory :
    (storesToMemory .bit7AtHL = false ∧ ∃ t, exec .bit7AtHL sample = .next t) ∧
    (storesToMemory .ret = false ∧ ∃ t, exec .ret sample = .next t) ∧
    (storesToMemory .halt = false ∧ storesToMemory .cpB = false) :=
  ⟨⟨by decide, _, rfl⟩, ⟨by decide, _, rfl⟩, by decide⟩

theorem witness_OtherInstructionsKeepPcAndSp :
    (transfersControl (.addSPImm 0x80#8) = false ∧ ∃ t, exec (.addSPImm 0x80#8) sample = .next t) ∧
    (writesSp (.jr 0x80#8) = false ∧ ∃ t, exec (.jr 0x80#8) sample = .next t) ∧
    (transfersControl .bit0B = false ∧ writesSp .bit0B = false) :=
  ⟨⟨by decide, _, rfl⟩, ⟨by decide, _, rfl⟩, by decide⟩

end Sys2Proof.Tests
end

/-! PROOFS. What `exec` can run: one list of the meanings, each with its block of instructions, so that a fact about
every instruction is proved meaning by meaning (R92, R93). -/

namespace Sys2Proof.Machine

/-- The instructions that do nothing beyond their fetch: NOP and the eleven reserved bytes (R255, R263). -/
def noOps : List Instr :=
  [.nop, .reservedD3, .reservedDB, .reservedDD, .reservedE3, .reservedE4, .reservedEB, .reservedEC, .reservedED,
   .reservedF4, .reservedFC, .reservedFD]

/-- `Means i m`: the instruction `i` stands in a block of the opcode maps, or alone, with the meaning `m`. -/
inductive Means : Instr → (State → Result) → Prop where
  | alu (op : AluOp) (o : Operand8) : Means (aluInstr op o) (aluOn op o)
  | aluNow (op : AluOp) (n : Byte) : Means (aluImmInstr op n) (aluImm op n)
  | inc (o : Operand8) : Means (incInstr o) (incOn o)
  | dec (o : Operand8) : Means (decInstr o) (decOn o)
  | daa : Means .daa daaOn
  | cpl : Means .cpl execCpl
  | scf : Means .scf execScf
  | ccf : Means .ccf execCcf
  | rlca : Means .rlca (rotateA .rlc)
  | rrca : Means .rrca (rotateA .rrc)
  | rla : Means .rla (rotateA .rl)
  | rra : Means .rra (rotateA .rr)
  | shift (op : ShiftOp) (o : Operand8) : Means (shiftInstr op o) (shiftOn op o)
  | bit (k : Fin 8) (o : Operand8) : Means (bitInstr k o) (testBit k o)
  | res (k : Fin 8) (o : Operand8) : Means (resInstr k o) (resetBit k o)
  | set (k : Fin 8) (o : Operand8) : Means (setInstr k o) (setBit k o)
  | prefixCb : Means .prefixCb execPrefixCb
  | addHl (p : Pair) : Means (addHlInstr p) (addHlOn p)
  | incPair (p : Pair) : Means (incPairInstr p) (incPairOn p)
  | decPair (p : Pair) : Means (decPairInstr p) (decPairOn p)
  | addSp (n : Byte) : Means (.addSPImm n) (addSpOn n)
  | ldHlSp (n : Byte) : Means (.ldHLSPImm n) (ldHlSp n)
  | ldNow (o : Operand8) (n : Byte) : Means (ldImmInstr o n) (ldImmOn o n)
  | ldReg (dst : Reg8) (src : Operand8) : Means (ldInstr (.reg dst) src) (ldOn (.reg dst) src)
  | ldStore (r : Reg8) : Means (ldInstr .atHl (.reg r)) (ldOn .atHl (.reg r))
  | storeA (p : MemPair) : Means (storeAInstr p) (storeAVia p)
  | loadA (p : MemPair) : Means (loadAInstr p) (loadAVia p)
  | ldhAtImmA (n : Byte) : Means (.ldhAtImmA n) (storeAAt (highPage n))
  | ldAtImmA (nn : Word) : Means (.ldAtImmA nn) (storeAAt nn)
  | ldAtCA : Means .ldAtCA execLdAtCA
  | ldhAAtImm (n : Byte) : Means (.ldhAAtImm n) (loadAAt (highPage n))
  | ldAAtImm (nn : Word) : Means (.ldAAtImm nn) (loadAAt nn)
  | ldAAtC : Means .ldAAtC execLdAAtC
  | ldPair (p : Pair) (nn : Word) : Means (ldPairInstr p nn) (fun s => .next (s.setPair p nn))
  | ldAtImmSP (nn : Word) : Means (.ldAtImmSP nn) (execLdAtImmSP nn)
  | ldSPHL : Means .ldSPHL execLdSPHL
  | push (p : StackPair) : Means (pushInstr p) (pushPair p)
  | pop (p : StackPair) : Means (popInstr p) (popPair p)
  | jr (n : Byte) : Means (.jr n) (jrIf true n)
  | jrCond (cc : Cond) (n : Byte) : Means (jrInstr cc n) (fun s => jrIf (s.cond cc) n s)
  | jp (nn : Word) : Means (.jp nn) (jpIf true nn)
  | jpCond (cc : Cond) (nn : Word) : Means (jpInstr cc nn) (fun s => jpIf (s.cond cc) nn s)
  | jpHL : Means .jpHL execJpHL
  | call (nn : Word) : Means (.call nn) (callIf true nn)
  | callCond (cc : Cond) (nn : Word) : Means (callInstr cc nn) (fun s => callIf (s.cond cc) nn s)
  | ret : Means .ret (retIf true)
  | retCond (cc : Cond) : Means (retInstr cc) (fun s => retIf (s.cond cc) s)
  | reti : Means .reti execReti
  | rst (k : Fin 8) : Means (rstInstr k) (restart k)
  | noOp (i : Instr) (hi : i ∈ noOps) : Means i noOperation
  | halt : Means .halt execHalt
  | stop : Means .stop execStop
  | ei : Means .ei execEi
  | di : Means .di execDi

/-- What `exec` runs is the meaning it agrees with in every state. -/
theorem Means.of_exec {i : Instr} {m : State → Result} (hm : Means i m) (he : ∀ s, exec i s = m s) :
    Means i (exec i) := by
  rwa [show exec i = m from funext he]

/-- Every instruction has one of the listed meanings. -/
theorem exec_means (i : Instr) : Means i (exec i) := by
  cases i using Instr.byBlock with
  | alu op o => exact .of_exec (.alu op o) (exec_aluInstr · op o)
  | aluNow op n => exact .of_exec (.aluNow op n) (exec_aluImmInstr · op n)
  | inc o => exact .of_exec (.inc o) (exec_incInstr · o)
  | dec o => exact .of_exec (.dec o) (exec_decInstr · o)
  | ldNow o n => exact .of_exec (.ldNow o n) (exec_ldImmInstr · o n)
  | ldReg dst src => exact .of_exec (.ldReg dst src) (exec_ldInstr_reg · dst src)
  | ldStore r => exact .of_exec (.ldStore r) (exec_ldInstr_store · r)
  | ldPair p nn => exact .of_exec (.ldPair p nn) (exec_ldPairInstr · p nn)
  | incPair p => exact .of_exec (.incPair p) (exec_incPairInstr · p)
  | decPair p => exact .of_exec (.decPair p) (exec_decPairInstr · p)
  | addHl p => exact .of_exec (.addHl p) (exec_addHlInstr · p)
  | storeA p => exact .of_exec (.storeA p) (exec_storeAInstr · p)
  | loadA p => exact .of_exec (.loadA p) (exec_loadAInstr · p)
  | pop p => exact .of_exec (.pop p) (exec_popInstr · p)
  | push p => exact .of_exec (.push p) (exec_pushInstr · p)
  | jrCond cc n => exact .of_exec (.jrCond cc n) (exec_jrInstr · cc n)
  | retCond cc => exact .of_exec (.retCond cc) (exec_retInstr · cc)
  | jpCond cc nn => exact .of_exec (.jpCond cc nn) (exec_jpInstr · cc nn)
  | callCond cc nn => exact .of_exec (.callCond cc nn) (exec_callInstr · cc nn)
  | rst k => exact .of_exec (.rst k) (exec_rstInstr · k)
  | shift op o => exact .of_exec (.shift op o) (exec_shiftInstr · op o)
  | bit k o => exact .of_exec (.bit k o) (exec_bitInstr · k o)
  | res k o => exact .of_exec (.res k o) (exec_resInstr · k o)
  | set k o => exact .of_exec (.set k o) (exec_setInstr · k o)
  | onlyLdAtImmSP nn => exact .ldAtImmSP nn
  | onlyJr n => exact .jr n
  | onlyJp nn => exact .jp nn
  | onlyCall nn => exact .call nn
  | onlyLdhAtImmA n => exact .ldhAtImmA n
  | onlyAddSPImm n => exact .addSp n
  | onlyLdAtImmA nn => exact .ldAtImmA nn
  | onlyLdhAAtImm n => exact .ldhAAtImm n
  | onlyLdHLSPImm n => exact .ldHlSp n
  | onlyLdAAtImm nn => exact .ldAAtImm nn
  | onlyRlca => exact .rlca
  | onlyRrca => exact .rrca
  | onlyRla => exact .rla
  | onlyRra => exact .rra
  | onlyDaa => exact .daa
  | onlyCpl => exact .cpl
  | onlyScf => exact .scf
  | onlyCcf => exact .ccf
  | onlyHalt => exact .halt
  | onlyStop => exact .stop
  | onlyEi => exact .ei
  | onlyDi => exact .di
  | onlyRet => exact .ret
  | onlyReti => exact .reti
  | onlyJpHL => exact .jpHL
  | onlyLdSPHL => exact .ldSPHL
  | onlyLdAtCA => exact .ldAtCA
  | onlyLdAAtC => exact .ldAAtC
  | onlyPrefixCb => exact .prefixCb
  | onlyNop | onlyReservedD3 | onlyReservedDB | onlyReservedDD | onlyReservedE3 | onlyReservedE4 | onlyReservedEB
  | onlyReservedEC | onlyReservedED | onlyReservedF4 | onlyReservedFC | onlyReservedFD =>
    exact .noOp _ (by simp [noOps])

end Sys2Proof.Machine

/-! PROOFS. The legal states and the parameters along steps, host actions and runs (R7, R25). -/

namespace Sys2Proof.Machine

theorem memWrite16_params (s : State) (addr v : Word) : s.SameParams (memWrite16 addr v s) := .of_eq rfl rfl

/-- Every listed meaning keeps the legal states and the parameters. -/
theorem Means.legal {i : Instr} {m : State → Result} (hm : Means i m) {s t : State} (hs : s.Inv)
    (ht : m s = .next t) : t.Inv ∧ s.SameParams t := by
  cases hm with
  | alu op o => exact aluOn_legal op o hs ht
  | aluNow op n => exact aluImm_legal op n hs ht
  | inc o => exact incOn_legal o hs ht
  | dec o => exact decOn_legal o hs ht
  | daa => exact daaOn_legal hs ht
  | cpl | scf | ccf => cases ht; exact ⟨setFlags_inv _ hs, .of_eq rfl rfl⟩
  | rlca | rrca | rla | rra => exact rotateA_legal _ hs ht
  | shift op o => exact shiftOn_legal op o hs ht
  | bit k o => exact testBit_legal k o hs ht
  | res k o => exact resetBit_legal k o hs ht
  | set k o => exact setBit_legal k o hs ht
  | prefixCb =>
    obtain ⟨ht_inv, ht_params⟩ := cbTableRun_legal _ (fetch8_inv hs) ht
    exact ⟨ht_inv, fetch8_params.trans ht_params⟩
  | addHl p => exact addHlOn_legal p hs ht
  | incPair p => exact incPairOn_legal p hs ht
  | decPair p => exact decPairOn_legal p hs ht
  | addSp n => exact addSpOn_legal n hs ht
  | ldHlSp n => exact ldHlSp_legal n hs ht
  | ldNow o n => exact ldImmOn_legal o n hs ht
  | ldReg dst src => exact ldOn_legal (.reg dst) src hs ht
  | ldStore r => exact ldOn_legal .atHl (.reg r) hs ht
  | storeA p => exact storeAVia_legal p hs ht
  | loadA p => exact loadAVia_legal p hs ht
  | ldhAtImmA | ldAtImmA | ldAtCA => exact storeAAt_legal _ hs ht
  | ldhAAtImm | ldAAtImm | ldAAtC => exact loadAAt_legal _ hs ht
  | ldPair p nn => cases ht; exact ⟨setPair_inv p nn hs, setPair_params p nn⟩
  | ldAtImmSP nn => cases ht; exact ⟨memWrite16_inv nn s.sp hs, memWrite16_params s nn s.sp⟩
  | push p => exact pushPair_legal p hs ht
  | pop p => exact popPair_legal p hs ht
  | jr | jrCond => exact jrIf_legal _ _ hs ht
  | jp | jpCond => exact jpIf_legal _ _ hs ht
  | call | callCond => exact callIf_legal _ _ hs ht
  | ret | retCond => exact retIf_legal _ hs ht
  | reti => cases ht; exact ⟨pop16_inv hs, pop16_params.trans (.of_eq rfl rfl)⟩
  | rst k => exact restart_legal k hs ht
  | stop => exact execStop_legal hs ht
  | ldSPHL | jpHL | noOp | halt | ei | di => cases ht; exact ⟨hs, .of_eq rfl rfl⟩

theorem exec_legal {i : Instr} {s t : State} (hs : s.Inv) (ht : exec i s = .next t) : t.Inv ∧ s.SameParams t :=
  (exec_means i).legal hs ht

/-- A completed report is a completed run with the cycle count put on it. -/
theorem report_eq_next {n : Nat} {r : Result} {t : State} (h : report n r = .next t) :
    ∃ u, r = .next u ∧ t = { u with cycles := n } := by
  cases r with
  | next u => cases h; exact ⟨u, rfl, rfl⟩
  | fault x => cases h
  | refused x => cases h

/-- What a step that completes has done: idled in sleep, or fetched an instruction, run it and reported its cycles. -/
theorem step_eq_next {s t : State} (h : step s = .next t) :
    (s.halted = true ∧ t = idle s) ∨
    ∃ u, exec (fetchInstr s.clearBus).1 (fetchInstr s.clearBus).2 = .next u ∧
      t = { u with cycles := instrCycles (fetchInstr s.clearBus).1 (fetchInstr s.clearBus).2 } := by
  unfold step at h
  split at h
  next halted => cases h; exact .inl ⟨halted, rfl⟩
  next => exact .inr (report_eq_next h)

theorem idle_legal {s : State} (hs : s.Inv) : (idle s).Inv ∧ s.SameParams (idle s) := ⟨hs, .of_eq rfl rfl⟩

theorem clearBus_params (s : State) : s.SameParams s.clearBus := .of_eq rfl rfl

theorem step_legal {s t : State} (hs : s.Inv) (ht : step s = .next t) : t.Inv ∧ s.SameParams t := by
  rcases step_eq_next ht with ⟨-, rfl⟩ | ⟨u, hu, rfl⟩
  · exact idle_legal hs
  · have hfetch : (fetchInstr s.clearBus).2.Inv := fetchInstr_inv (s := s.clearBus) hs
    obtain ⟨hinv, hparams⟩ := exec_legal hfetch hu
    exact ⟨hinv, ((clearBus_params s).trans fetchInstr_params).trans hparams⟩

theorem intEntry_params {s t : State} (v : IntVector) (h : intEntry v s = some t) : s.SameParams t := by
  rw [intEntry_eq] at h
  split at h
  · cases h; exact .of_eq rfl rfl
  · cases h

/-- Every Reset with a canonical image leaves a legal state: F is 0. -/
theorem State.resetWith_inv (cfg : Config) (attached : Bus) {image : Memory} (h : Memory.wf image = true) :
    (State.resetWith cfg attached image).Inv := ⟨BitVec.zero_and, h⟩

theorem hostAction_legal {x : HostAction} {s t : State} (hs : s.Inv) (hx : x.imageOk) (ht : hostAction x s = some t) :
    t.Inv ∧ s.SameParams t := by
  cases x with
  | wake => cases ht; exact ⟨hs, .of_eq rfl rfl⟩
  | intEntry v => exact ⟨intEntry_inv v hs ht, intEntry_params v ht⟩
  | reset image => cases ht; exact ⟨State.resetWith_inv s.cfg s.attached hx, .of_eq rfl rfl⟩

/-- Induction along a run: what holds at the start and is kept by every step and every host action holds at the end. -/
theorem Reaches.legal {s t : State} (hs : s.Inv) (h : Reaches s t) : t.Inv ∧ s.SameParams t := by
  induction h with
  | refl => exact ⟨hs, .refl s⟩
  | step _ hstep ih =>
    obtain ⟨hinv, hparams⟩ := ih
    obtain ⟨hinv', hparams'⟩ := step_legal hinv hstep
    exact ⟨hinv', hparams.trans hparams'⟩
  | action x _ hx hact ih =>
    obtain ⟨hinv, hparams⟩ := ih
    obtain ⟨hinv', hparams'⟩ := hostAction_legal hinv hx hact
    exact ⟨hinv', hparams.trans hparams'⟩

/-- Settles O4: the fetch, every meaning and every host action keep the legal states and the parameters. -/
theorem stepKeepsLegalState : Obligations.StepKeepsLegalState :=
  ⟨fun _ _ => step_legal, fun _ _ _ => hostAction_legal⟩

/-- Settles O5, by induction on the run. -/
theorem reachableStatesAreLegal : Obligations.ReachableStatesAreLegal := fun _ _ hs h => h.legal hs

/-- Settles O3: both are Resets with the empty image, which is canonical. -/
theorem resetStateIsLegal : Obligations.ResetStateIsLegal :=
  ⟨State.resetWith_inv resetConfig defaultBus rfl, State.resetWith_inv defaultConfig defaultBus rfl⟩

end Sys2Proof.Machine

/-! PROOFS. The cells, the pair views and the flags by their numbers (R20 to R25), and what Reset leaves (R36, R300). -/

namespace Sys2Proof.Machine

open Sys2Proof.Claims

/-! ### Bytes and words by their numbers -/

theorem flagMask_toNat (v : Byte) : (v &&& flagMask).toNat = 16 * (v.toNat / 16) := by
  revert v; decide

theorem hiByte_eq_ofNat (v : Word) : hiByte v = BitVec.ofNat 8 (v.toNat / 256) := by
  apply BitVec.eq_of_toNat_eq
  have := v.isLt
  rw [hiByte_toNat, BitVec.toNat_ofNat]
  omega

theorem loByte_eq_ofNat (v : Word) : loByte v = BitVec.ofNat 8 v.toNat := by
  apply BitVec.eq_of_toNat_eq
  rw [loByte_toNat, BitVec.toNat_ofNat]

theorem loByte_masked_eq_ofNat (v : Word) : loByte v &&& flagMask = BitVec.ofNat 8 (16 * (v.toNat / 16 % 16)) := by
  apply BitVec.eq_of_toNat_eq
  rw [flagMask_toNat, loByte_toNat, BitVec.toNat_ofNat]
  omega

theorem wordOf_toNat_high_first (hi lo : Byte) : (wordOf hi lo).toNat = 256 * hi.toNat + lo.toNat := by
  rw [wordOf_toNat, Nat.mul_comm]

/-! ### The pair views (R22) -/

theorem State.af_toNat (s : State) : s.af.toNat = 256 * s.a.toNat + 16 * (s.f.toNat / 16) := by
  rw [State.af, wordOf_toNat_high_first, State.flagByte, flagMask_toNat]

theorem State.setAf_eq (s : State) (v : Word) :
    s.setAf v = { s with a := BitVec.ofNat 8 (v.toNat / 256), f := BitVec.ofNat 8 (16 * (v.toNat / 16 % 16)) } := by
  rw [State.setAf, hiByte_eq_ofNat, loByte_masked_eq_ofNat]

theorem State.setBc_eq (s : State) (v : Word) :
    s.setBc v = { s with b := BitVec.ofNat 8 (v.toNat / 256), c := BitVec.ofNat 8 v.toNat } := by
  rw [State.setBc, hiByte_eq_ofNat, loByte_eq_ofNat]

theorem State.setDe_eq (s : State) (v : Word) :
    s.setDe v = { s with d := BitVec.ofNat 8 (v.toNat / 256), e := BitVec.ofNat 8 v.toNat } := by
  rw [State.setDe, hiByte_eq_ofNat, loByte_eq_ofNat]

theorem State.setHl_eq (s : State) (v : Word) :
    s.setHl v = { s with h := BitVec.ofNat 8 (v.toNat / 256), l := BitVec.ofNat 8 v.toNat } := by
  rw [State.setHl, hiByte_eq_ofNat, loByte_eq_ofNat]

/-- A pair code reads and writes the fields of its name (R87). -/
theorem State.pair_eq_pairWord (s : State) (p : Pair) (v : Word) :
    s.pair p = pairWord s p ∧ s.setPair p v = withPair s p v := by cases p <;> exact ⟨rfl, rfl⟩

/-- A register code reads and writes the field of its name (R86). -/
theorem State.reg_eq_regByte (s : State) (r : Reg8) (w : Byte) :
    s.reg r = regByte s r ∧ s.setReg r w = withReg s r w := by cases r <;> exact ⟨rfl, rfl⟩

/-- Settles O18: each view is `wordOf` of its cells, and each write splits its word. -/
theorem pairViewsShareTheCells : Obligations.PairViewsShareTheCells := by
  intro s v w
  refine ⟨⟨s.af_toNat, ?_, ?_, ?_⟩, s.setAf_eq v, s.setBc_eq v, s.setDe_eq v, s.setHl_eq v,
    fun p => s.pair_eq_pairWord p v, fun r => s.reg_eq_regByte r w, ⟨rfl, rfl, rfl, rfl⟩, rfl, rfl, rfl, rfl⟩
  all_goals exact wordOf_toNat_high_first _ _

/-! ### The flags (R24) -/

/-- `Flags.toByte` is the layout the statements write out. -/
theorem Flags.toByte_eq_fOf (fl : Flags) : fl.toByte = fOf fl.z fl.n fl.h fl.c := rfl

theorem State.flags_eq_bits (s : State) : s.flags = ⟨fz s, fn s, fh s, fc s⟩ := rfl

theorem State.setFlags_eq (s : State) (fl : Flags) : s.setFlags fl = { s with f := fOf fl.z fl.n fl.h fl.c } := by
  rw [State.setFlags, State.setFlagByte, Flags.toByte_masked, Flags.toByte_eq_fOf]

/-- The bits of the written flag byte, read one by one, are the arguments. -/
theorem bits_setFlags (s : State) (fl : Flags) :
    (⟨fz (s.setFlags fl), fn (s.setFlags fl), fh (s.setFlags fl), fc (s.setFlags fl)⟩ : Flags) = fl :=
  s.flags_setFlags fl

/-- Settles O19: the four flags read back from the byte they are laid out in. -/
theorem flagsAreFixedBitsOfF : Obligations.FlagsAreFixedBitsOfF := by
  intro s fl
  have hbits := bits_setFlags s fl
  exact ⟨s.flags_eq_bits, s.setFlags_eq fl, congrArg Flags.z hbits, congrArg Flags.n hbits, congrArg Flags.h hbits,
    congrArg Flags.c hbits, flagMask_low _⟩

/-! ### Reset -/

theorem regByte_resetWith (cfg : Config) (attached : Bus) (image : Memory) (r : Reg8) :
    regByte (State.resetWith cfg attached image) r = 0#8 := by cases r <;> rfl

/-- With the flat memory and no cell in it every byte reads 0 (R303, log entry 3). -/
theorem byteAt_resetWith_flat_nil (cfg : Config) (x : Word) : (State.resetWith cfg .flat []).byteAt x = 0#8 := rfl

/-- Settles O1: both reset states and every Reset are `State.resetWith`. -/
theorem resetStateValues : Obligations.ResetStateValues := by
  refine ⟨fun image s => ?_, fun t ht => ?_, rfl⟩
  · exact ⟨regByte_resetWith s.cfg s.attached image, rfl, rfl, rfl, rfl, rfl, fun _ => rfl, rfl, rfl⟩
  · obtain ⟨cfg, rfl⟩ : ∃ cfg, t = State.resetWith cfg .flat [] := ht.elim (⟨_, ·⟩) (⟨_, ·⟩)
    exact ⟨regByte_resetWith cfg .flat [], rfl, rfl, rfl, rfl, rfl, rfl, byteAt_resetWith_flat_nil cfg⟩

end Sys2Proof.Machine

/-! PROOFS. No instruction reads `ime` or `halted`, and five write them (R30, R31, R256 to R260). -/

namespace Sys2Proof.Machine

open Sys2Proof.Claims

/-! ### `ime` and `halted` (R30, R31) -/

/-- `s` with other values of `ime` and `halted`. -/
def State.withSleep (s : State) (ime halted : Bool) : State := { s with ime := ime, halted := halted }

/-- `m` neither reads nor writes `ime` and `halted`: with other values of the two it answers the same next state but
for them. -/
def SleepBlind (m : State → Result) : Prop :=
  ∀ (s t : State) (ime halted : Bool), m s = .next t → m (s.withSleep ime halted) = .next (t.withSleep ime halted)

/-- The instructions that write `ime` or `halted` (R30, R31; STOP under the policy `halt`, R257). -/
def sleepWriters : List Instr := [.ei, .reti, .di, .halt, .stop]

/-- A byte operand is the same cell, or the same transaction, whatever `ime` and `halted` are. -/
theorem readOperand_withSleep (o : Operand8) (s : State) (v w : Bool) :
    readOperand o (s.withSleep v w) = ((readOperand o s).1, (readOperand o s).2.withSleep v w) := by
  rcases o with r | _
  · cases r <;> rfl
  · rfl

theorem writeOperand_withSleep (o : Operand8) (b : Byte) (s : State) (v w : Bool) :
    writeOperand o b (s.withSleep v w) = (writeOperand o b s).withSleep v w := by
  rcases o with r | _
  · cases r <;> rfl
  · rfl

theorem cond_withSleep (cc : Cond) (s : State) (v w : Bool) : (s.withSleep v w).cond cc = s.cond cc := by
  cases cc <;> rfl

theorem aluOn_sleepBlind (op : AluOp) (o : Operand8) : SleepBlind (aluOn op o) := by
  rintro s _ v w ⟨⟩
  rw [aluOn, readOperand_withSleep]
  cases op <;> rfl

theorem shiftOn_sleepBlind (op : ShiftOp) (o : Operand8) : SleepBlind (shiftOn op o) := by
  rintro s _ v w ⟨⟩
  simp only [shiftOn, readOperand_withSleep, writeOperand_withSleep]
  rfl

theorem incOn_sleepBlind (o : Operand8) : SleepBlind (incOn o) := by
  rintro s _ v w ⟨⟩
  simp only [incOn, readOperand_withSleep, writeOperand_withSleep]
  rfl

theorem decOn_sleepBlind (o : Operand8) : SleepBlind (decOn o) := by
  rintro s _ v w ⟨⟩
  simp only [decOn, readOperand_withSleep, writeOperand_withSleep]
  rfl

theorem testBit_sleepBlind (k : Fin 8) (o : Operand8) : SleepBlind (testBit k o) := by
  rintro s _ v w ⟨⟩
  simp only [testBit, readOperand_withSleep]
  rfl

theorem resetBit_sleepBlind (k : Fin 8) (o : Operand8) : SleepBlind (resetBit k o) := by
  rintro s _ v w ⟨⟩
  simp only [resetBit, readOperand_withSleep, writeOperand_withSleep]

theorem setBit_sleepBlind (k : Fin 8) (o : Operand8) : SleepBlind (setBit k o) := by
  rintro s _ v w ⟨⟩
  simp only [setBit, readOperand_withSleep, writeOperand_withSleep]

theorem ldOn_sleepBlind (dst src : Operand8) : SleepBlind (ldOn dst src) := by
  rintro s _ v w ⟨⟩
  simp only [ldOn, readOperand_withSleep, writeOperand_withSleep]

theorem ldImmOn_sleepBlind (dst : Operand8) (n : Byte) : SleepBlind (ldImmOn dst n) := by
  rintro s _ v w ⟨⟩
  simp only [ldImmOn, writeOperand_withSleep]

theorem jrIf_sleepBlind (taken : Bool) (n : Byte) : SleepBlind (jrIf taken n) := by
  rintro s _ v w ⟨⟩
  cases taken <;> rfl

theorem jpIf_sleepBlind (taken : Bool) (nn : Word) : SleepBlind (jpIf taken nn) := by
  rintro s _ v w ⟨⟩
  cases taken <;> rfl

theorem callIf_sleepBlind (taken : Bool) (nn : Word) : SleepBlind (callIf taken nn) := by
  rintro s _ v w ⟨⟩
  cases taken <;> rfl

theorem retIf_sleepBlind (taken : Bool) : SleepBlind (retIf taken) := by
  rintro s _ v w ⟨⟩
  cases taken <;> rfl

/-- A condition reads flags only, so a meaning behind a condition is as blind as it is for each outcome. -/
theorem SleepBlind.of_cond {m : Bool → State → Result} (cc : Cond) (hm : ∀ taken, SleepBlind (m taken)) :
    SleepBlind (fun s => m (s.cond cc) s) := by
  intro s t v w ht
  dsimp only
  rw [cond_withSleep]
  exact hm (s.cond cc) s t v w ht

theorem cbTableRun_sleepBlind (op : Byte) : SleepBlind (cbTableRun op) := by
  unfold SleepBlind cbTableRun
  dsimp only
  split
  · exact shiftOn_sleepBlind _ _
  · exact testBit_sleepBlind _ _
  · exact resetBit_sleepBlind _ _
  · exact setBit_sleepBlind _ _

theorem execPrefixCb_sleepBlind : SleepBlind execPrefixCb := fun s t v w ht =>
  cbTableRun_sleepBlind _ (fetch8 s).2 t v w ht

/-- No meaning but those of the five writers touches the two bits. -/
theorem Means.sleepBlind {i : Instr} {m : State → Result} (hm : Means i m) (hi : i ∉ sleepWriters) : SleepBlind m := by
  cases hm with
  | ei | reti | di | halt | stop => simp [sleepWriters] at hi
  | alu op o => exact aluOn_sleepBlind op o
  | inc o => exact incOn_sleepBlind o
  | dec o => exact decOn_sleepBlind o
  | shift op o => exact shiftOn_sleepBlind op o
  | bit k o => exact testBit_sleepBlind k o
  | res k o => exact resetBit_sleepBlind k o
  | set k o => exact setBit_sleepBlind k o
  | prefixCb => exact execPrefixCb_sleepBlind
  | ldReg dst src => exact ldOn_sleepBlind (.reg dst) src
  | ldStore r => exact ldOn_sleepBlind .atHl (.reg r)
  | ldNow o n => exact ldImmOn_sleepBlind o n
  | jr n => exact jrIf_sleepBlind true n
  | jp nn => exact jpIf_sleepBlind true nn
  | call nn => exact callIf_sleepBlind true nn
  | ret => exact retIf_sleepBlind true
  | jrCond cc n => exact .of_cond cc fun taken => jrIf_sleepBlind taken n
  | jpCond cc nn => exact .of_cond cc fun taken => jpIf_sleepBlind taken nn
  | callCond cc nn => exact .of_cond cc fun taken => callIf_sleepBlind taken nn
  | retCond cc => exact .of_cond cc retIf_sleepBlind
  | aluNow op => rintro s _ v w ⟨⟩; cases op <;> rfl
  | addHl p | incPair p | decPair p | ldPair p | storeA p | loadA p | push p | pop p =>
    rintro s _ v w ⟨⟩; cases p <;> rfl
  | daa | cpl | scf | ccf | rlca | rrca | rla | rra | addSp | ldHlSp | ldhAtImmA | ldAtImmA | ldAtCA | ldhAAtImm
  | ldAAtImm | ldAAtC | ldAtImmSP | ldSPHL | jpHL | rst | noOp =>
    rintro s _ v w ⟨⟩; rfl

/-- `ime` after an instruction: EI and RETI set it, DI clears it (R30). -/
def imeAfter (i : Instr) (before : Bool) : Bool :=
  if i = .ei ∨ i = .reti then true else if i = .di then false else before

/-- `halted` after an instruction: HALT sets it, and STOP does under the policy `halt` (R31, R257). -/
def haltedAfter (i : Instr) (policy : StopPolicy) (before : Bool) : Bool :=
  if i = .halt ∨ (i = .stop ∧ policy = .halt) then true else before

theorem imeAfter_of_not_writer {i : Instr} (hi : i ∉ sleepWriters) (v : Bool) : imeAfter i v = v := by
  simp only [sleepWriters, List.mem_cons, not_or] at hi
  obtain ⟨hei, hreti, hdi, -⟩ := hi
  simp [imeAfter, hei, hreti, hdi]

theorem haltedAfter_of_not_writer {i : Instr} (hi : i ∉ sleepWriters) (policy : StopPolicy) (v : Bool) :
    haltedAfter i policy v = v := by
  simp only [sleepWriters, List.mem_cons, not_or] at hi
  obtain ⟨-, -, -, hhalt, hstop, -⟩ := hi
  simp [haltedAfter, hhalt, hstop]

theorem execStop_withSleep {s t : State} (ht : execStop s = .next t) (v w : Bool) :
    execStop (s.withSleep v w) = .next (t.withSleep v (haltedAfter .stop s.cfg.stopPolicy w)) := by
  have hcfg : (s.withSleep v w).cfg = s.cfg := rfl
  unfold execStop at ht ⊢
  rw [hcfg]
  cases hpolicy : s.cfg.stopPolicy <;> rw [hpolicy] at ht <;> cases ht <;> rfl

/-- A run with other values of `ime` and `halted` differs in these two alone. -/
theorem exec_withSleep {i : Instr} {s t : State} (ht : exec i s = .next t) (v w : Bool) :
    exec i (s.withSleep v w) = .next (t.withSleep (imeAfter i v) (haltedAfter i s.cfg.stopPolicy w)) := by
  by_cases hi : i ∈ sleepWriters
  · simp only [sleepWriters, List.mem_cons, List.not_mem_nil, or_false] at hi
    rcases hi with rfl | rfl | rfl | rfl | rfl
    case inr.inr.inr.inr => exact execStop_withSleep ht v w
    all_goals cases ht; rfl
  · rw [imeAfter_of_not_writer hi, haltedAfter_of_not_writer hi]
    exact (exec_means i).sleepBlind hi s t v w ht

/-- Against itself a run shows what it leaves in `ime` and `halted`. -/
theorem exec_eq_withSleep {i : Instr} {s t : State} (ht : exec i s = .next t) :
    t = t.withSleep (imeAfter i s.ime) (haltedAfter i s.cfg.stopPolicy s.halted) :=
  Host.Outcome.next.inj (ht.symm.trans (exec_withSleep ht s.ime s.halted))

theorem exec_ime {i : Instr} {s t : State} (ht : exec i s = .next t) : t.ime = imeAfter i s.ime :=
  congrArg State.ime (exec_eq_withSleep ht)

theorem exec_halted {i : Instr} {s t : State} (ht : exec i s = .next t) :
    t.halted = haltedAfter i s.cfg.stopPolicy s.halted :=
  congrArg State.halted (exec_eq_withSleep ht)

/-- Settles O56: the run with another `ime` and the same `halted`. -/
theorem imeIsWriteOnly : Obligations.ImeIsWriteOnly := by
  intro i s t v ht
  have hrun := exec_withSleep ht v s.halted
  rw [← exec_halted ht] at hrun
  exact hrun

/-- Settles O57: the run with another `halted` and the same `ime`. -/
theorem onlyHaltSetsHalted : Obligations.OnlyHaltSetsHalted := by
  intro i s t v ht
  have hrun := exec_withSleep ht s.ime v
  rw [← exec_ime ht] at hrun
  exact ⟨exec_halted ht, hrun⟩

end Sys2Proof.Machine

/-! PROOFS. Which instructions keep F, PC and SP (R26 to R28, R235). -/

namespace Sys2Proof.Machine

open Sys2Proof.Claims

/-! ### F, PC and SP after each operation -/

section
variable (s : State)

@[simp] theorem memRead8_snd (addr : Word) : (memRead8 addr s).2 = s.afterRead addr := rfl
@[simp] theorem pop16_pc : (pop16 s).2.pc = s.pc := rfl
@[simp] theorem readOperand_f (o : Operand8) : (readOperand o s).2.f = s.f := by cases o <;> rfl
@[simp] theorem readOperand_pc (o : Operand8) : (readOperand o s).2.pc = s.pc := by cases o <;> rfl
@[simp] theorem readOperand_sp (o : Operand8) : (readOperand o s).2.sp = s.sp := by cases o <;> rfl
@[simp] theorem writeOperand_f (o : Operand8) (v : Byte) : (writeOperand o v s).f = s.f := by
  cases o <;> simp [writeOperand]
@[simp] theorem writeOperand_pc (o : Operand8) (v : Byte) : (writeOperand o v s).pc = s.pc := by
  cases o <;> simp [writeOperand]
@[simp] theorem writeOperand_sp (o : Operand8) (v : Byte) : (writeOperand o v s).sp = s.sp := by
  cases o <;> simp [writeOperand]
@[simp] theorem aluWith_pc (op : AluOp) (x : Byte) : (aluWith op x s).pc = s.pc := by cases op <;> rfl
@[simp] theorem aluWith_sp (op : AluOp) (x : Byte) : (aluWith op x s).sp = s.sp := by cases op <;> rfl
@[simp] theorem indirect_f (p : MemPair) : (indirect p s).2.f = s.f := by cases p <;> rfl
@[simp] theorem indirect_pc (p : MemPair) : (indirect p s).2.pc = s.pc := by cases p <;> rfl
@[simp] theorem indirect_sp (p : MemPair) : (indirect p s).2.sp = s.sp := by cases p <;> rfl
@[simp] theorem setPair_f (p : Pair) (v : Word) : (s.setPair p v).f = s.f := by cases p <;> rfl
@[simp] theorem setPair_pc (p : Pair) (v : Word) : (s.setPair p v).pc = s.pc := by cases p <;> rfl
@[simp] theorem setStackPair_pc (p : StackPair) (v : Word) : (s.setStackPair p v).pc = s.pc := by cases p <;> rfl
end

theorem setPair_sp {p : Pair} (hp : p ≠ .sp) (s : State) (v : Word) : (s.setPair p v).sp = s.sp := by
  cases p with
  | sp => exact absurd rfl hp
  | bc | de | hl => rfl

/-! ### The opcodes that write F (R26), SP (R28) and PC (R235), block by block -/

@[simp] theorem writesFlags_aluInstr (op : AluOp) (o : Operand8) : writesFlags (aluInstr op o) = true := by
  cases op <;> rcases o with ⟨⟨⟩⟩ | _ <;> rfl
@[simp] theorem writesFlags_aluImmInstr (op : AluOp) (n : Byte) : writesFlags (aluImmInstr op n) = true := by
  cases op <;> rfl
@[simp] theorem writesFlags_incInstr (o : Operand8) : writesFlags (incInstr o) = true := by
  rcases o with ⟨⟨⟩⟩ | _ <;> rfl
@[simp] theorem writesFlags_decInstr (o : Operand8) : writesFlags (decInstr o) = true := by
  rcases o with ⟨⟨⟩⟩ | _ <;> rfl
@[simp] theorem writesFlags_addHlInstr (p : Pair) : writesFlags (addHlInstr p) = true := by cases p <;> rfl
@[simp] theorem writesFlags_shiftInstr (op : ShiftOp) (o : Operand8) : writesFlags (shiftInstr op o) = true := by
  cases op <;> rcases o with ⟨⟨⟩⟩ | _ <;> rfl
@[simp] theorem writesFlags_bitInstr (k : Fin 8) (o : Operand8) : writesFlags (bitInstr k o) = true := by
  fin_cases k <;> rcases o with ⟨⟨⟩⟩ | _ <;> rfl

@[simp] theorem writesSp_pushInstr (p : StackPair) : writesSp (pushInstr p) = true := by cases p <;> rfl
@[simp] theorem writesSp_popInstr (p : StackPair) : writesSp (popInstr p) = true := by cases p <;> rfl
@[simp] theorem writesSp_callInstr (cc : Cond) (nn : Word) : writesSp (callInstr cc nn) = true := by cases cc <;> rfl
@[simp] theorem writesSp_retInstr (cc : Cond) : writesSp (retInstr cc) = true := by cases cc <;> rfl
@[simp] theorem writesSp_rstInstr (k : Fin 8) : writesSp (rstInstr k) = true := by fin_cases k <;> rfl

@[simp] theorem transfersControl_jrInstr (cc : Cond) (n : Byte) : transfersControl (jrInstr cc n) = true := by
  cases cc <;> rfl
@[simp] theorem transfersControl_jpInstr (cc : Cond) (nn : Word) : transfersControl (jpInstr cc nn) = true := by
  cases cc <;> rfl
@[simp] theorem transfersControl_callInstr (cc : Cond) (nn : Word) : transfersControl (callInstr cc nn) = true := by
  cases cc <;> rfl
@[simp] theorem transfersControl_retInstr (cc : Cond) : transfersControl (retInstr cc) = true := by cases cc <;> rfl
@[simp] theorem transfersControl_rstInstr (k : Fin 8) : transfersControl (rstInstr k) = true := by fin_cases k <;> rfl

/-! ### What each meaning keeps -/

theorem jrIf_keeps {taken : Bool} {n : Byte} {s t : State} (ht : jrIf taken n s = .next t) :
    t.f = s.f ∧ t.sp = s.sp := by
  cases ht; cases taken <;> exact ⟨rfl, rfl⟩

theorem jpIf_keeps {taken : Bool} {nn : Word} {s t : State} (ht : jpIf taken nn s = .next t) :
    t.f = s.f ∧ t.sp = s.sp := by
  cases ht; cases taken <;> exact ⟨rfl, rfl⟩

theorem callIf_keeps_f {taken : Bool} {nn : Word} {s t : State} (ht : callIf taken nn s = .next t) : t.f = s.f := by
  cases ht; cases taken <;> rfl

theorem retIf_keeps_f {taken : Bool} {s t : State} (ht : retIf taken s = .next t) : t.f = s.f := by
  cases ht; cases taken <;> rfl

theorem execStop_keeps {s t : State} (ht : execStop s = .next t) : t.f = s.f ∧ t.sp = s.sp := by
  unfold execStop at ht
  split at ht <;> cases ht <;> exact ⟨rfl, rfl⟩

/-- Every meaning outside the flag-writing opcodes keeps F: R26 lists all that write it. -/
theorem Means.keeps_f {i : Instr} {m : State → Result} (hm : Means i m) (hi : writesFlags i = false) {s t : State}
    (ht : m s = .next t) : t.f = s.f := by
  cases hm with
  | alu | aluNow | inc | dec | addHl | shift | bit => simp at hi
  | daa | cpl | scf | ccf | rlca | rrca | rla | rra | addSp | ldHlSp | prefixCb => nomatch hi
  | pop p =>
    cases p with
    | af => nomatch hi
    | bc | de | hl => cases ht; rfl
  | res | set | ldNow | ldReg | ldStore | storeA | loadA | ldPair | incPair | decPair => cases ht; simp
  | ldhAtImmA | ldAtImmA | ldAtCA | ldhAAtImm | ldAAtImm | ldAAtC | ldAtImmSP | ldSPHL | push => cases ht; rfl
  | jr | jrCond => exact (jrIf_keeps ht).1
  | jp | jpCond => exact (jpIf_keeps ht).1
  | call | callCond => exact callIf_keeps_f ht
  | ret | retCond => exact retIf_keeps_f ht
  | stop => exact (execStop_keeps ht).1
  | jpHL | reti | rst | noOp | halt | ei | di => cases ht; rfl

/-- Every meaning outside the control transfers leaves PC past the instruction (R27, R235). -/
theorem Means.keeps_pc {i : Instr} {m : State → Result} (hm : Means i m) (hi : transfersControl i = false)
    {s t : State} (ht : m s = .next t) : t.pc = s.pc := by
  cases hm with
  | jrCond | jpCond | callCond | retCond | rst => simp at hi
  | jr | jp | jpHL | call | ret | reti | stop | prefixCb => nomatch hi
  | alu | aluNow | inc | dec | addHl | shift | bit | res | set | ldNow | ldReg | ldStore | storeA | loadA | ldPair
  | incPair | decPair | pop => cases ht; simp
  | daa | cpl | scf | ccf | rlca | rrca | rla | rra | addSp | ldHlSp | ldhAtImmA | ldAtImmA | ldAtCA | ldhAAtImm
  | ldAAtImm | ldAAtC | ldAtImmSP | ldSPHL | push | noOp | halt | ei | di => cases ht; rfl

/-- Every meaning outside the list of R28 keeps SP. -/
theorem Means.keeps_sp {i : Instr} {m : State → Result} (hm : Means i m) (hi : writesSp i = false) {s t : State}
    (ht : m s = .next t) : t.sp = s.sp := by
  cases hm with
  | push | pop | callCond | retCond | rst => simp at hi
  | addSp | ldSPHL | call | ret | reti | prefixCb => nomatch hi
  | ldPair p | incPair p | decPair p =>
    have hp : p ≠ .sp := by rintro rfl; nomatch hi
    cases ht
    exact setPair_sp hp _ _
  | jr | jrCond => exact (jrIf_keeps ht).2
  | jp | jpCond => exact (jpIf_keeps ht).2
  | stop => exact (execStop_keeps ht).2
  | alu | aluNow | inc | dec | shift | bit | res | set | ldNow | ldReg | ldStore | storeA | loadA => cases ht; simp
  | daa | cpl | scf | ccf | rlca | rrca | rla | rra | addHl | ldHlSp | ldhAtImmA | ldAtImmA | ldAtCA | ldhAAtImm
  | ldAAtImm | ldAAtC | ldAtImmSP | jpHL | noOp | halt | ei | di => cases ht; rfl

/-- Settles O58, meaning by meaning. -/
theorem otherInstructionsKeepFlags : Obligations.OtherInstructionsKeepFlags :=
  fun i _ _ hi ht => (exec_means i).keeps_f hi ht

/-- Settles O60, meaning by meaning. -/
theorem otherInstructionsKeepPcAndSp : Obligations.OtherInstructionsKeepPcAndSp := fun i _ _ ht =>
  ⟨fun hi => (exec_means i).keeps_pc hi ht, fun hi => (exec_means i).keeps_sp hi ht⟩

end Sys2Proof.Machine

/-! PROOFS. The flat memory and the bus: the canonical form, reads and writes (R51 to R53, R57, R73). -/

namespace Sys2Proof.Machine

open Sys2Proof.Claims

/-! ### The canonical form (R51) -/

/-- The canonical form of a cell in front of more cells, as propositions. -/
theorem Memory.wfFrom_cons {lo k : Nat} {v : Byte} {rest : Memory} :
    Memory.wfFrom lo ((k, v) :: rest) = true ↔
      lo ≤ k ∧ k < 65536 ∧ v ≠ initByte k ∧ Memory.wfFrom (k + 1) rest = true := by
  simp [Memory.wfFrom, and_assoc]

theorem Memory.read_cons_same (k : Nat) (v : Byte) (rest : Memory) : Memory.read ((k, v) :: rest) k = v := by
  simp [Memory.read]

theorem Memory.read_cons_other {k a : Nat} (h : k ≠ a) (v : Byte) (rest : Memory) :
    Memory.read ((k, v) :: rest) a = Memory.read rest a := by
  simp [Memory.read, h]

/-- Below its first address a canonical list holds no cell. -/
theorem Memory.read_below {lo a : Nat} {m : Memory} (hm : Memory.wfFrom lo m = true) (ha : a < lo) :
    Memory.read m a = initByte a := by
  induction m generalizing lo with
  | nil => rfl
  | cons cell rest ih =>
    obtain ⟨k, v⟩ := cell
    obtain ⟨hlo, -, -, hrest⟩ := Memory.wfFrom_cons.mp hm
    rw [Memory.read_cons_other (by omega), ih hrest (by omega)]

/-- A cell of a canonical list is seen by a read. -/
theorem Memory.read_cons_ne_init {lo k : Nat} {v : Byte} {rest : Memory}
    (hm : Memory.wfFrom lo ((k, v) :: rest) = true) : Memory.read ((k, v) :: rest) k ≠ initByte k := by
  obtain ⟨-, -, hv, -⟩ := Memory.wfFrom_cons.mp hm
  rwa [Memory.read_cons_same]

/-- A memory that reads the same cannot start above the first address of a canonical list. -/
theorem Memory.head_le {lo lo' k k' : Nat} {v v' : Byte} {rest rest' : Memory}
    (hm : Memory.wfFrom lo ((k, v) :: rest) = true) (hm' : Memory.wfFrom lo' ((k', v') :: rest') = true)
    (h : ∀ a, Memory.read ((k, v) :: rest) a = Memory.read ((k', v') :: rest') a) : k' ≤ k := by
  obtain ⟨-, htail⟩ := Memory.wfFrom_cons.mp hm'
  by_contra hlt
  refine Memory.read_cons_ne_init hm ?_
  rw [h k, Memory.read_below (Memory.wfFrom_cons.mpr ⟨le_refl k', htail⟩) (by omega)]

/-- Canonical lists that read the same are equal, from whatever address each is canonical. -/
theorem Memory.eq_of_read_eq {lo lo' : Nat} {m m' : Memory} (hm : Memory.wfFrom lo m = true)
    (hm' : Memory.wfFrom lo' m' = true) (h : ∀ a, Memory.read m a = Memory.read m' a) : m = m' := by
  induction m generalizing lo lo' m' with
  | nil =>
    cases m' with
    | nil => rfl
    | cons cell' rest' => exact absurd (h cell'.1).symm (Memory.read_cons_ne_init hm')
  | cons cell rest ih =>
    obtain ⟨k, v⟩ := cell
    cases m' with
    | nil => exact absurd (h k) (Memory.read_cons_ne_init hm)
    | cons cell' rest' =>
      obtain ⟨k', v'⟩ := cell'
      obtain rfl : k = k' :=
        le_antisymm (Memory.head_le hm' hm fun a => (h a).symm) (Memory.head_le hm hm' h)
      obtain rfl : v = v' := by
        rw [← Memory.read_cons_same k v rest, h k, Memory.read_cons_same]
      obtain ⟨-, -, -, hrest⟩ := Memory.wfFrom_cons.mp hm
      obtain ⟨-, -, -, hrest'⟩ := Memory.wfFrom_cons.mp hm'
      have hreads : ∀ a, Memory.read rest a = Memory.read rest' a := by
        intro a
        by_cases ha : k = a
        · rw [Memory.read_below hrest (by omega), Memory.read_below hrest' (by omega)]
        · rw [← Memory.read_cons_other ha v rest, h a, Memory.read_cons_other ha]
      rw [ih hrest hrest' hreads]

/-- Settles O6, by induction on the cells of the first memory. -/
theorem canonicalMemoryIsUnique : Obligations.CanonicalMemoryIsUnique := fun _ _ hm hm' h =>
  Memory.eq_of_read_eq hm hm' h

/-! ### The bus (R52, R53, R57) -/

/-- With an oracle behind the bus the next read is answered from its list, and after the list by a free value. -/
theorem byteAfter_oracle {s : State} {answers : List Byte} {asked : Nat} (h : s.attached = .oracle answers asked)
    (k : Nat) (x : Word) : s.byteAfter k x = (answers[asked + k]?).getD (freeAnswer (asked + k)) := by
  unfold State.byteAfter; rw [h]; rfl

/-- A byte write stores its byte in the flat memory and nothing else. -/
theorem memWrite8_storedByte (s : State) (addr : Word) (w : Byte) : StoredByte s (memWrite8 addr w s) addr w :=
  ⟨rfl, fun x => ram_memWrite8 s addr x w⟩

/-- A word write stores its two bytes, the low one first. -/
theorem memWrite16_storedWord (s : State) (addr v : Word) : StoredWord s (memWrite16 addr v s) addr v :=
  ⟨by simp only [memWrite16_eq], fun x => ram_memWrite16 s addr v x⟩

theorem memRead8_memWrite8 {s : State} (hflat : s.attached = .flat) (addr : Word) (w : Byte) :
    (memRead8 addr (memWrite8 addr w s)).1 = w := by
  show (memWrite8 addr w s).byteAfter 0 addr = w
  rw [byteAfter_flat (memWrite8 addr w s) hflat]
  simp [hflat]

theorem memRead16_memWrite16 {s : State} (hflat : s.attached = .flat) (addr v : Word) :
    (memRead16 addr (memWrite16 addr v s)).1 = v := by
  have hram : ∀ k x, (memWrite16 addr v s).byteAfter k x = (memWrite16 addr v s).ram x := byteAfter_flat _ hflat
  rw [memRead16_eq, State.byteAt, hram, hram, ram_memWrite16, ram_memWrite16]
  simp [hflat]

/-- Settles O20, clause by clause from what each bus operation does. -/
theorem wordsAreLittleEndian : Obligations.WordsAreLittleEndian := by
  intro s addr v w
  refine ⟨fun hflat k => ⟨byteAfter_flat s hflat k addr, ?_⟩,
    fun answers asked h k => ⟨byteAfter_oracle h k addr, ?_⟩, rfl, rfl,
    memWrite8_storedByte s addr w, memRead16_eq s addr, memWrite16_storedWord s addr v,
    fun hflat => ⟨memRead8_memWrite8 hflat addr w, memRead16_memWrite16 hflat addr v⟩⟩
  · rw [hflat]; rfl
  · rw [h]; rfl

end Sys2Proof.Machine

/-! PROOFS. What each instruction does on the bus: at most two transactions, all of them reads unless its opcode stores
(R60 to R62). -/

namespace Sys2Proof.Machine

open Sys2Proof.Claims

/-! ### At most so many transactions -/

/-- From `s` to `t` at most `n` transactions were added. -/
def BusGrows (n : Nat) (s t : State) : Prop := ∃ events, events.length ≤ n ∧ t.bus = s.bus ++ events

/-- From `s` to `t` at most `n` reads were answered and the memory was left alone. -/
def OnlyReads (n : Nat) (s t : State) : Prop :=
  t.mem = s.mem ∧ ∃ reads : List (Word × Byte), reads.length ≤ n ∧
    t.bus = s.bus ++ reads.map (fun r => .read r.1 r.2) ∧ t.attached = s.attached.skip reads.length

section
variable {s t u : State} {m n : Nat}

theorem BusGrows.mono (h : BusGrows m s t) (hmn : m ≤ n) : BusGrows n s t := by
  obtain ⟨events, hlength, hbus⟩ := h
  exact ⟨events, hlength.trans hmn, hbus⟩

theorem BusGrows.trans (h : BusGrows m s t) (k : BusGrows n t u) : BusGrows (m + n) s u := by
  obtain ⟨es, hes, hbus⟩ := h
  obtain ⟨fs, hfs, kbus⟩ := k
  exact ⟨es ++ fs, by rw [List.length_append]; omega, by rw [kbus, hbus, List.append_assoc]⟩

theorem OnlyReads.busGrows (h : OnlyReads n s t) : BusGrows n s t := by
  obtain ⟨-, reads, hlength, hbus, -⟩ := h
  exact ⟨_, by rwa [List.length_map], hbus⟩

theorem OnlyReads.mono (h : OnlyReads m s t) (hmn : m ≤ n) : OnlyReads n s t := by
  obtain ⟨hmem, reads, hlength, hbus⟩ := h
  exact ⟨hmem, reads, hlength.trans hmn, hbus⟩

theorem OnlyReads.trans (h : OnlyReads m s t) (k : OnlyReads n t u) : OnlyReads (m + n) s u := by
  obtain ⟨hmem, rs, hrs, hbus, hskip⟩ := h
  obtain ⟨kmem, qs, hqs, kbus, kskip⟩ := k
  refine ⟨kmem.trans hmem, rs ++ qs, ?_, ?_, ?_⟩
  · rw [List.length_append]; omega
  · rw [kbus, hbus, List.map_append, List.append_assoc]
  · rw [kskip, hskip, Bus.skip_skip, List.length_append]

/-- A state that differs in neither memory nor bus. -/
theorem OnlyReads.of_eq (hm : t.mem = s.mem) (hbus : t.bus = s.bus) (hb : t.attached = s.attached) :
    OnlyReads n s t :=
  ⟨hm, [], Nat.zero_le n, by simp [hbus], by simp [hb]⟩

/-- What follows a transition without touching memory or bus does not count. -/
theorem OnlyReads.then_eq (h : OnlyReads n s t) (hm : u.mem = t.mem) (hbus : u.bus = t.bus)
    (hb : u.attached = t.attached) : OnlyReads n s u := h.trans (.of_eq (n := 0) hm hbus hb)
end

/-! ### The shared operations -/

section
variable (s : State)

theorem afterRead_onlyReads (addr : Word) : OnlyReads 1 s (s.afterRead addr) :=
  ⟨rfl, [(addr, s.byteAt addr)], le_rfl, rfl, rfl⟩

theorem fetch8_onlyReads : OnlyReads 1 s (fetch8 s).2 := (afterRead_onlyReads s s.pc).then_eq rfl rfl rfl

theorem pop16_onlyReads : OnlyReads 2 s (pop16 s).2 :=
  ((afterRead_onlyReads s s.sp).trans (afterRead_onlyReads _ (s.sp + 1))).then_eq rfl rfl rfl

theorem readOperand_onlyReads (o : Operand8) : OnlyReads 1 s (readOperand o s).2 := by
  cases o with
  | reg r => exact .of_eq rfl rfl rfl
  | atHl => exact afterRead_onlyReads s s.hl

theorem setReg_onlyReads (r : Reg8) (v : Byte) : OnlyReads 0 s (s.setReg r v) := .of_eq (by simp) (by simp) (by simp)

theorem indirect_onlyReads (p : MemPair) : OnlyReads 0 s (indirect p s).2 := by cases p <;> exact .of_eq rfl rfl rfl

theorem setPair_onlyReads (p : Pair) (v : Word) : OnlyReads 0 s (s.setPair p v) := by
  cases p <;> exact .of_eq rfl rfl rfl

theorem setStackPair_onlyReads (p : StackPair) (v : Word) : OnlyReads 0 s (s.setStackPair p v) := by
  cases p <;> exact .of_eq rfl rfl rfl

theorem aluWith_onlyReads (op : AluOp) (x : Byte) : OnlyReads 0 s (aluWith op x s) := by
  cases op <;> exact .of_eq rfl rfl rfl

theorem memWrite8_busGrows (addr : Word) (v : Byte) : BusGrows 1 s (memWrite8 addr v s) :=
  ⟨[.write addr v], le_rfl, rfl⟩

theorem memWrite16_busGrows (addr v : Word) : BusGrows 2 s (memWrite16 addr v s) :=
  (memWrite8_busGrows s addr _).trans (memWrite8_busGrows _ (addr + 1) _)

theorem push16_busGrows (v : Word) : BusGrows 2 s (push16 v s) := memWrite16_busGrows (s.setSp (s.sp - 2)) _ v
end

/-! ### The opcodes that store, block by block -/

@[simp] theorem storesToMemory_incInstr_atHl : storesToMemory (incInstr .atHl) = true := rfl
@[simp] theorem storesToMemory_decInstr_atHl : storesToMemory (decInstr .atHl) = true := rfl
@[simp] theorem storesToMemory_ldImmInstr_atHl (n : Byte) : storesToMemory (ldImmInstr .atHl n) = true := rfl
@[simp] theorem storesToMemory_ldInstr_atHl (r : Reg8) : storesToMemory (ldInstr .atHl (.reg r)) = true := by
  cases r <;> rfl
@[simp] theorem storesToMemory_shiftInstr_atHl (op : ShiftOp) : storesToMemory (shiftInstr op .atHl) = true := by
  cases op <;> rfl
@[simp] theorem storesToMemory_resInstr_atHl (k : Fin 8) : storesToMemory (resInstr k .atHl) = true := by
  fin_cases k <;> rfl
@[simp] theorem storesToMemory_setInstr_atHl (k : Fin 8) : storesToMemory (setInstr k .atHl) = true := by
  fin_cases k <;> rfl
@[simp] theorem storesToMemory_storeAInstr (p : MemPair) : storesToMemory (storeAInstr p) = true := by cases p <;> rfl
@[simp] theorem storesToMemory_pushInstr (p : StackPair) : storesToMemory (pushInstr p) = true := by cases p <;> rfl
@[simp] theorem storesToMemory_callInstr (cc : Cond) (nn : Word) : storesToMemory (callInstr cc nn) = true := by
  cases cc <;> rfl
@[simp] theorem storesToMemory_rstInstr (k : Fin 8) : storesToMemory (rstInstr k) = true := by fin_cases k <;> rfl

/-! ### What each meaning does on the bus -/

/-- What `i` may do on the bus between `s` and `t`: read up to twice, or, if its opcode stores, make up to two
transactions of any kind. -/
def UsesBus (i : Instr) (s t : State) : Prop := OnlyReads 2 s t ∨ (storesToMemory i = true ∧ BusGrows 2 s t)

theorem UsesBus.busGrows {i : Instr} {s t : State} (h : UsesBus i s t) : BusGrows 2 s t :=
  h.elim (·.busGrows) (·.2)

/-- Nothing happens on the bus. -/
theorem UsesBus.of_silent {i : Instr} {s t : State} (h : OnlyReads 0 s t) : UsesBus i s t := .inl (h.mono (by decide))

/-- The operand is rewritten: a register silently, the byte at HL by one write. -/
theorem writeOperand_usesBus {i : Instr} (o : Operand8) (v : Byte) (s : State)
    (hi : o = .atHl → storesToMemory i = true) : UsesBus i s (writeOperand o v s) := by
  cases o with
  | reg r => exact .of_silent (setReg_onlyReads s r v)
  | atHl => exact .inr ⟨hi rfl, (memWrite8_busGrows s s.hl v).mono (by decide)⟩

/-- The operand is read and rewritten: a register silently, the byte at HL by one read and one write. What follows may
write flags. -/
theorem modifyOperand_usesBus {i : Instr} (o : Operand8) (v : Byte) {s t : State}
    (hi : o = .atHl → storesToMemory i = true) (ht : OnlyReads 0 (writeOperand o v (readOperand o s).2) t) :
    UsesBus i s t := by
  cases o with
  | reg r => exact .of_silent ((setReg_onlyReads s r v).trans ht)
  | atHl =>
    have hread : BusGrows 1 s (s.afterRead s.hl) := (afterRead_onlyReads s s.hl).busGrows
    exact .inr ⟨hi rfl, (hread.trans (memWrite8_busGrows _ _ v)).trans ht.busGrows⟩

theorem execStop_onlyReads {s t : State} (ht : execStop s = .next t) : OnlyReads 1 s t := by
  unfold execStop at ht
  split at ht
  · cases ht
  · cases ht; exact .of_eq rfl rfl rfl
  · cases ht; exact fetch8_onlyReads s
  · cases ht; exact .of_eq rfl rfl rfl

theorem callIf_busGrows {taken : Bool} {nn : Word} {s t : State} (ht : callIf taken nn s = .next t) :
    BusGrows 2 s t := by
  cases ht
  cases taken
  · exact ⟨[], by decide, by simp⟩
  · exact push16_busGrows s s.pc

theorem jrIf_onlyReads {taken : Bool} {n : Byte} {s t : State} (ht : jrIf taken n s = .next t) : OnlyReads 0 s t := by
  cases ht; cases taken <;> exact .of_eq rfl rfl rfl

theorem jpIf_onlyReads {taken : Bool} {nn : Word} {s t : State} (ht : jpIf taken nn s = .next t) :
    OnlyReads 0 s t := by
  cases ht; cases taken <;> exact .of_eq rfl rfl rfl

theorem retIf_onlyReads {taken : Bool} {s t : State} (ht : retIf taken s = .next t) : OnlyReads 2 s t := by
  cases ht
  cases taken
  · exact .of_eq rfl rfl rfl
  · exact (pop16_onlyReads s).then_eq rfl rfl rfl

/-- Every meaning but that of the byte 0xCB alone, which fetches once more. -/
theorem Means.usesBus {i : Instr} {m : State → Result} (hm : Means i m) (hi : i ≠ .prefixCb) {s t : State}
    (ht : m s = .next t) : UsesBus i s t := by
  cases hm with
  | prefixCb => exact absurd rfl hi
  | alu op o =>
    cases ht
    exact .inl (((readOperand_onlyReads s o).trans (aluWith_onlyReads _ op _)).mono (by decide))
  | bit k o => cases ht; exact .inl (((readOperand_onlyReads s o).then_eq rfl rfl rfl).mono (by decide))
  | inc o | dec o | shift op o | res k o | set k o =>
    cases ht
    exact modifyOperand_usesBus o _ (by rintro rfl; simp) (.of_eq rfl rfl rfl)
  | ldNow o n => cases ht; exact writeOperand_usesBus o n s (by rintro rfl; simp)
  | ldStore r => cases ht; exact writeOperand_usesBus .atHl _ s (by simp)
  | ldReg dst src =>
    cases ht
    exact .inl (((readOperand_onlyReads s src).trans (setReg_onlyReads _ dst _)).mono (by decide))
  | storeA p =>
    cases ht
    exact .inr ⟨by simp, ((indirect_onlyReads s p).busGrows.trans (memWrite8_busGrows _ _ _)).mono (by decide)⟩
  | loadA p =>
    cases ht
    exact .inl ((((indirect_onlyReads s p).trans (afterRead_onlyReads _ _)).then_eq rfl rfl rfl).mono (by decide))
  | ldhAtImmA | ldAtImmA | ldAtCA => cases ht; exact .inr ⟨rfl, (memWrite8_busGrows s _ _).mono (by decide)⟩
  | ldhAAtImm | ldAAtImm | ldAAtC =>
    cases ht; exact .inl (((afterRead_onlyReads s _).then_eq rfl rfl rfl).mono (by decide))
  | ldAtImmSP nn => cases ht; exact .inr ⟨rfl, memWrite16_busGrows s nn s.sp⟩
  | push p => cases ht; exact .inr ⟨by simp, push16_busGrows s _⟩
  | pop p => cases ht; exact .inl ((pop16_onlyReads s).trans (setStackPair_onlyReads _ p _))
  | jr | jrCond => exact .of_silent (jrIf_onlyReads ht)
  | jp | jpCond => exact .of_silent (jpIf_onlyReads ht)
  | call => exact .inr ⟨rfl, callIf_busGrows ht⟩
  | callCond => exact .inr ⟨by simp, callIf_busGrows ht⟩
  | ret | retCond => exact .inl (retIf_onlyReads ht)
  | reti => cases ht; exact .inl ((pop16_onlyReads s).then_eq rfl rfl rfl)
  | rst k => cases ht; exact .inr ⟨by simp, push16_busGrows s s.pc⟩
  | stop => exact .inl ((execStop_onlyReads ht).mono (by decide))
  | aluNow op n => cases ht; exact .of_silent (aluWith_onlyReads s op n)
  | incPair p | decPair p | ldPair p => cases ht; exact .of_silent (setPair_onlyReads s p _)
  | daa | cpl | scf | ccf | rlca | rrca | rla | rra | addHl | addSp | ldHlSp | ldSPHL | jpHL | noOp | halt | ei | di =>
    cases ht; exact .of_silent (.of_eq rfl rfl rfl)

/-- Settles O59, meaning by meaning; the byte 0xCB alone counts as storing. -/
theorem otherInstructionsKeepMemory : Obligations.OtherInstructionsKeepMemory := by
  intro i s t hi ht
  have hprefix : i ≠ .prefixCb := by rintro rfl; nomatch hi
  rcases (exec_means i).usesBus hprefix ht with ⟨hmem, reads, -, hbus, hskip⟩ | ⟨hstores, -⟩
  · exact ⟨State.ram_congr hmem, reads, hbus, hskip⟩
  · rw [hi] at hstores; nomatch hstores

end Sys2Proof.Machine

/-! PROOFS. The fetch and the outputs of a step: the bytes an instruction is fetched from, the entry of the cycle table
it is charged from, and the bounds on transactions and cycles (R58, R61, R85, R92, R93, R312, R313). -/

namespace Sys2Proof

/-! ### The entries of the primary table and the encoder (R85, R92, R93) -/

/-- The instruction an entry makes if an immediate byte is `n` and an immediate word is `nn`. -/
def Entry.instr (e : Entry) (n : Byte) (nn : Word) : Instr :=
  match e with
  | .plain i => i
  | .imm8 k => k n
  | .imm16 k => k nn
  | .cbTable => cbInstr n

/-- The bytes behind the opcode of that instruction. -/
def Entry.operandBytes (e : Entry) (n : Byte) (nn : Word) : List Byte :=
  match e with
  | .plain _ => []
  | .imm8 _ => [n]
  | .imm16 _ => [loByte nn, hiByte nn]
  | .cbTable => [n]

theorem Byte.exists_literal (op : Byte) : ∃ k < 256, op = BitVec.ofNat 8 k := ⟨op.toNat, op.isLt, by simp⟩

/-- A byte other than 0xCB is a literal below it or above it. -/
theorem Byte.exists_literal_of_ne_cb {op : Byte} (h : op ≠ 0xCB#8) :
    ∃ k, (k < 0xCB ∨ (0xCB < k ∧ k < 256)) ∧ op = BitVec.ofNat 8 k := by
  obtain ⟨k, hk, rfl⟩ := Byte.exists_literal op
  have hne : k ≠ 0xCB := by rintro rfl; exact h rfl
  exact ⟨k, by omega, rfl⟩

theorem encode_cbInstr (op : Byte) : encode (cbInstr op) = [0xCB#8, op] := by
  revert op; decide

/-- The primary table agrees with the encoder, opcode by opcode. -/
theorem encode_primaryEntry (op n : Byte) (nn : Word) :
    encode ((primaryEntry op).instr n nn) = op :: (primaryEntry op).operandBytes n nn := by
  by_cases hprefix : op = 0xCB#8
  · subst hprefix; exact encode_cbInstr n
  · obtain ⟨k, hbelow | ⟨habove, hk⟩, rfl⟩ := Byte.exists_literal_of_ne_cb hprefix
    · interval_cases k <;> rfl
    · interval_cases k <;> rfl

/-- No entry makes the byte 0xCB alone: the entry of 0xCB has a byte behind it (R34). -/
theorem primaryEntry_instr_ne_prefixCb (op n : Byte) (nn : Word) : (primaryEntry op).instr n nn ≠ .prefixCb := by
  intro h
  have hbytes := encode_primaryEntry op n nn
  rw [h] at hbytes
  obtain ⟨rfl, htail⟩ := List.cons.inj hbytes
  nomatch htail

end Sys2Proof

namespace Sys2Proof.Machine

open Sys2Proof.Claims

/-! ### Branches (R90) -/

/-- Whether the instruction with the opcode `op` takes its branch in `s` (R90): `takenAtPc` for any opcode. -/
def takenBy (op : Byte) (s : State) : Bool :=
  if op.toNat ∈ [0x20, 0x28, 0x30, 0x38] ∨
    (0xC0 ≤ op.toNat ∧ op.toNat < 0xE0 ∧ (op.toNat % 8 = 0 ∨ op.toNat % 8 = 2 ∨ op.toNat % 8 = 4))
  then condHolds (Cond.ofCode (op.toNat / 8 % 4)) s else true

theorem takenAtPc_eq (s : State) : takenAtPc s = takenBy (s.byteAt s.pc) s := rfl

/-- A condition reads F alone. -/
theorem takenBy_congr {s t : State} (hf : t.f = s.f) (op : Byte) : takenBy op t = takenBy op s := by
  have hcond : ∀ cc, condHolds cc t = condHolds cc s := by
    intro cc; cases cc <;> simp [condHolds, fz, fc, hf]
  simp only [takenBy, hcond]

/-- The conditional instructions are those of the four columns of opcodes, opcode by opcode. -/
theorem branchTaken_primaryEntry {op : Byte} (hprefix : op ≠ 0xCB#8) (n : Byte) (nn : Word) (s : State) :
    branchTaken ((primaryEntry op).instr n nn) s = takenBy op s := by
  obtain ⟨k, hbelow | ⟨habove, hk⟩, rfl⟩ := Byte.exists_literal_of_ne_cb hprefix
  · interval_cases k <;> rfl
  · interval_cases k <;> rfl

/-! ### The fetch (R58, R60) -/

/-- `s` after the first `n` bytes at PC have been read and PC moved past them. -/
def State.afterFetch (s : State) (n : Nat) : State :=
  { s with pc := s.pc + BitVec.ofNat 16 n, attached := s.attached.skip n, bus := s.bus ++ fetches s n }

section
variable (s : State)

theorem fetch8_afterFetch : fetch8 s = (s.byteAt s.pc, s.afterFetch 1) := rfl

theorem byteAfter_fetch8 (k : Nat) (x : Word) : (fetch8 s).2.byteAfter k x = s.byteAfter (1 + k) x :=
  byteAfter_afterRead s s.pc x k

theorem fetch8_fetch8 : fetch8 (fetch8 s).2 = (s.byteAfter 1 (s.pc + 1), s.afterFetch 2) := by
  rw [fetch8_eq, State.byteAt, byteAfter_fetch8, fetch8_eq]
  simp [State.afterFetch, fetches, BitVec.add_assoc]

theorem fetch16_fetch8 :
    fetch16 (fetch8 s).2 = (wordOf (s.byteAfter 2 (s.pc + 2)) (s.byteAfter 1 (s.pc + 1)), s.afterFetch 3) := by
  rw [fetch16_eq, State.byteAt, byteAfter_fetch8, byteAfter_fetch8, fetch8_eq]
  simp [State.afterFetch, fetches, BitVec.add_assoc]

/-- The fetch makes of the bytes at PC the instruction of the opcode's entry, and reads as many bytes as the opcode's
length says. -/
theorem fetchInstr_eq :
    fetchInstr s =
      ((primaryEntry (s.byteAt s.pc)).instr (s.byteAfter 1 (s.pc + 1))
        (wordOf (s.byteAfter 2 (s.pc + 2)) (s.byteAfter 1 (s.pc + 1))), s.afterFetch (lengthOf (s.byteAt s.pc))) := by
  have hop : (fetch8 s).1 = s.byteAt s.pc := rfl
  unfold fetchInstr lengthOf
  simp only [hop, fetch8_fetch8, fetch16_fetch8]
  cases primaryEntry (s.byteAt s.pc) <;> rfl
end

theorem lengthOf_pos (op : Byte) : 1 ≤ lengthOf op := by
  unfold lengthOf; split <;> decide

theorem fetches_length_bounds (s : State) (op : Byte) :
    1 ≤ (fetches s (lengthOf op)).length ∧ (fetches s (lengthOf op)).length ≤ 3 := by
  have hpos := lengthOf_pos op
  rw [fetches, List.length_take]
  exact ⟨le_min hpos (Nat.le_add_left 1 2), min_le_right _ _⟩

/-! ### The cycle count (R312, R313) -/

theorem instrKey_of_encode {i : Instr} {op : Byte} {bytes : List Byte} (h : encode i = op :: bytes)
    (hop : op ≠ 0xCB#8) (s : State) : instrKey i s = .entry .primary op (branchTaken i s) := by
  unfold instrKey
  rw [h]
  cases bytes with
  | nil => rfl
  | cons op2 rest => exact if_neg hop

theorem instrKey_cbInstr (op : Byte) (s : State) : instrKey (cbInstr op) s = .entry .cb op true := by
  unfold instrKey
  rw [encode_cbInstr]
  rfl

/-- The entry a step is charged from, by the bytes at PC. -/
theorem instrKey_fetchInstr (s : State) :
    instrKey (fetchInstr s).1 (fetchInstr s).2 =
      if s.byteAt s.pc = 0xCB#8 then .entry .cb (s.byteAfter 1 (s.pc + 1)) true
      else .entry .primary (s.byteAt s.pc) (takenAtPc s) := by
  rw [fetchInstr_eq]
  split
  next hprefix => rw [hprefix]; exact instrKey_cbInstr _ _
  next hprefix =>
    rw [instrKey_of_encode (encode_primaryEntry _ _ _) hprefix, branchTaken_primaryEntry hprefix, takenAtPc_eq]
    exact congrArg _ (takenBy_congr rfl _)

theorem cycleCost_eq_costOr (s : State) (key : CycleKey) : cycleCost s.cfg key = costOr s key (defaultCost key) := rfl

/-- The default table read row by row is the one read by opcode. -/
theorem defaultCost_primary (op : Byte) (taken : Bool) :
    defaultCost (.entry .primary op taken) = primaryCost op.toNat taken := by
  obtain ⟨k, hk, rfl⟩ := Byte.exists_literal op
  interval_cases k <;> cases taken <;> rfl

theorem defaultCost_cb (op : Byte) (taken : Bool) : defaultCost (.entry .cb op taken) = cbCost op.toNat := by
  obtain ⟨k, hk, rfl⟩ := Byte.exists_literal op
  interval_cases k <;> rfl

theorem instrCycles_fetchInstr {s : State} (hawake : s.halted = false) :
    instrCycles (fetchInstr s).1 (fetchInstr s).2 = stepCost s := by
  have hcfg : (fetchInstr s).2.cfg = s.cfg := by rw [fetchInstr_eq]; rfl
  rw [instrCycles, hcfg, instrKey_fetchInstr, cycleCost_eq_costOr]
  unfold stepCost
  rw [hawake]
  split <;> simp [defaultCost_primary, defaultCost_cb, *]

/-- A bound on both branches bounds the choice. -/
theorem le_ite {p : Prop} [Decidable p] {k a b : Nat} (ha : k ≤ a) (hb : k ≤ b) : k ≤ if p then a else b := by
  split <;> assumption

/-- Every row of the two tables of R313 costs four cycles or more. -/
theorem four_le_primaryCost (op : Nat) (taken : Bool) : 4 ≤ primaryCost op taken := by
  unfold primaryCost
  repeat' apply le_ite
  all_goals decide

theorem four_le_cbCost (op : Nat) : 4 ≤ cbCost op := le_ite (by decide) (le_ite (by decide) (by decide))

/-- A listed cost counts as 1 at least; with none listed the default counts. -/
theorem costOr_bounds (s : State) (key : CycleKey) {default : Nat} (h : 4 ≤ default) :
    1 ≤ costOr s key default ∧ (s.cfg.cycles = [] → 4 ≤ costOr s key default) := by
  unfold costOr
  split
  next e he => exact ⟨le_max_left 1 e.2, fun hnil => by rw [hnil] at he; nomatch he⟩
  next => exact ⟨by omega, fun _ => h⟩

theorem stepCost_bounds (s : State) : 1 ≤ stepCost s ∧ (s.cfg.cycles = [] → 4 ≤ stepCost s) := by
  unfold stepCost
  dsimp only
  split_ifs
  · exact costOr_bounds s _ le_rfl
  · exact costOr_bounds s _ (four_le_cbCost _)
  · exact costOr_bounds s _ (four_le_primaryCost _ _)

/-! ### The bounds on a step -/

/-- What an awake step that completes has done: fetched an instruction, run it and reported the cost of its entry. -/
theorem awake_step_eq_next {s t : State} (hawake : s.halted = false) (ht : step s = .next t) :
    ∃ u, exec (fetchInstr s.clearBus).1 (fetchInstr s.clearBus).2 = .next u ∧
      t = { u with cycles := stepCost s } := by
  rcases step_eq_next ht with ⟨hhalted, -⟩ | ⟨u, hu, rfl⟩
  · rw [hawake] at hhalted; nomatch hhalted
  · refine ⟨u, hu, ?_⟩
    rw [instrCycles_fetchInstr (s := s.clearBus) hawake]
    rfl

theorem halted_step_eq {s : State} (hhalted : s.halted = true) : step s = .next (idle s) := if_pos hhalted

theorem idle_cycles {s : State} (hhalted : s.halted = true) : (idle s).cycles = stepCost s := by
  unfold stepCost
  rw [if_pos hhalted]
  rfl

/-- An awake step makes one to three fetches and at most two transactions more (R61). -/
theorem awake_step_bus {s u : State} (hu : exec (fetchInstr s.clearBus).1 (fetchInstr s.clearBus).2 = .next u) :
    1 ≤ u.bus.length ∧ u.bus.length ≤ 5 := by
  rw [fetchInstr_eq] at hu
  obtain ⟨events, hevents, hbus⟩ := ((exec_means _).usesBus (primaryEntry_instr_ne_prefixCb _ _ _) hu).busGrows
  obtain ⟨hpos, hle⟩ := fetches_length_bounds s.clearBus (s.byteAt s.pc)
  have hlength : u.bus.length = (fetches s.clearBus (lengthOf (s.byteAt s.pc))).length + events.length := by
    rw [hbus, List.length_append]; rfl
  omega

/-- Settles O11: the idle step makes no transaction; the awake step is bounded by its fetch and its meaning, and charged
from the entry of its bytes. -/
theorem stepOutputsAreBounded : Obligations.StepOutputsAreBounded := by
  intro s t ht
  obtain ⟨hpos, hfour⟩ := stepCost_bounds s
  cases hhalted : s.halted with
  | true =>
    rw [halted_step_eq hhalted] at ht
    cases ht
    rw [idle_cycles hhalted]
    exact ⟨Nat.zero_le 5, nofun, hpos, rfl, hfour⟩
  | false =>
    obtain ⟨u, hu, rfl⟩ := awake_step_eq_next hhalted ht
    obtain ⟨hsome, hle⟩ := awake_step_bus hu
    exact ⟨hle, fun _ => hsome, hpos, rfl, hfour⟩

end Sys2Proof.Machine

/-! PROOFS. The decoder and the encoder: what a list that decodes looks like, the table at every field pattern, and the
round trips (R81, R85 to R96). -/

namespace Sys2Proof.Machine

/-! ### Operand and operation codes (R86 to R90, R99) -/

theorem Operand8.code_lt (o : Operand8) : o.code < 8 := by
  rcases o with r | _
  · cases r <;> decide
  · decide

@[simp] theorem Operand8.ofCode_code (o : Operand8) : Operand8.ofCode o.code = o := by
  rcases o with r | _
  · cases r <;> rfl
  · rfl

@[simp] theorem octet_val (i : Fin 8) : octet i.val = i := Fin.ext (Nat.mod_eq_of_lt i.isLt)

theorem AluOp.exists_code (op : AluOp) : ∃ k < 8, AluOp.ofCode k = op := by cases op <;> decide

theorem ShiftOp.exists_code (op : ShiftOp) : ∃ k < 8, ShiftOp.ofCode k = op := by cases op <;> decide

theorem Pair.exists_code (p : Pair) : ∃ k < 4, Pair.ofCode k = p := by cases p <;> decide

theorem StackPair.exists_code (p : StackPair) : ∃ k < 4, StackPair.ofCode k = p := by cases p <;> decide

theorem MemPair.exists_code (p : MemPair) : ∃ k < 4, MemPair.ofCode k = p := by cases p <;> decide

theorem Cond.exists_code (cc : Cond) : ∃ k < 4, Cond.ofCode k = cc := by cases cc <;> decide

end Sys2Proof.Machine

namespace Sys2Proof

open Sys2Proof.Machine

/-! ### What the decoder answers (R81, R95) -/

/-- Only 0xCB leads to the CB table (R34): the encoder puts that byte before every row of it. -/
theorem eq_cb_of_primaryEntry {op : Byte} (h : primaryEntry op = .cbTable) : op = 0xCB#8 := by
  have hbytes := encode_primaryEntry op 0#8 0#16
  rw [h] at hbytes
  exact (List.cons.inj ((encode_cbInstr 0#8).symm.trans hbytes)).1.symm

/-- An opcode followed by its operand bytes decodes to what its entry makes of them. -/
theorem decode_entry (op n : Byte) (nn : Word) (rest : List Byte) :
    decode (op :: (primaryEntry op).operandBytes n nn ++ rest) = .ok ((primaryEntry op).instr n nn, rest) := by
  cases h : primaryEntry op <;> simp [decode, h, Entry.operandBytes, Entry.instr]

/-- What a list that decodes looks like: the byte 0xCB alone, or an opcode, its operand bytes and the rest. -/
theorem decode_eq_ok {bytes rest : List Byte} {i : Instr} (h : decode bytes = .ok (i, rest)) :
    (bytes = [0xCB#8] ∧ i = .prefixCb ∧ rest = []) ∨
    ∃ op n nn, bytes = op :: (primaryEntry op).operandBytes n nn ++ rest ∧ i = (primaryEntry op).instr n nn := by
  unfold decode at h
  split at h
  next => nomatch h
  next op tail =>
    split at h
    next heq => cases h; exact .inr ⟨op, 0#8, 0#16, by simp [heq, Entry.operandBytes, Entry.instr]⟩
    next n _ heq => cases h; exact .inr ⟨op, n, 0#16, by simp [heq, Entry.operandBytes, Entry.instr]⟩
    next => nomatch h
    next lo hi _ heq =>
      cases h; exact .inr ⟨op, 0#8, wordOf hi lo, by simp [heq, Entry.operandBytes, Entry.instr]⟩
    next => nomatch h
    next n _ heq => cases h; exact .inr ⟨op, n, 0#16, by simp [heq, Entry.operandBytes, Entry.instr]⟩
    next heq => cases h; exact .inl ⟨by rw [eq_cb_of_primaryEntry heq], rfl, rfl⟩

/-- Settles O13: the encoder writes the opcode and the operand bytes that the decoder took. -/
theorem encodeDecodeRoundTrip : Obligations.EncodeDecodeRoundTrip := by
  intro bytes i rest h
  rcases decode_eq_ok h with ⟨rfl, rfl, rfl⟩ | ⟨op, n, nn, rfl, rfl⟩
  · rfl
  · rw [encode_primaryEntry]

/-! ### The tables at each field pattern (R85 to R93) -/

/-- The three fields of a byte `xx yyy zzz` (R85). -/
theorem fields_of_pattern {v x y z : Nat} (hv : v = 64 * x + 8 * y + z) (hx : x < 4) (hy : y < 8) (hz : z < 8) :
    (BitVec.ofNat 8 v).toNat / 64 = x ∧ (BitVec.ofNat 8 v).toNat / 8 % 8 = y ∧ (BitVec.ofNat 8 v).toNat % 8 = z := by
  rw [BitVec.toNat_ofNat]; omega

section
variable {k : Nat}

/-! #### The primary table (R85, R92) -/

theorem primaryEntry_ldInstr (dst src : Operand8) :
    primaryEntry (BitVec.ofNat 8 (0x40 + 8 * dst.code + src.code)) = .plain (ldInstr dst src) := by
  have hfields := fields_of_pattern (v := 0x40 + 8 * dst.code + src.code) (x := 1) rfl (by decide)
    dst.code_lt src.code_lt
  simp only [primaryEntry, hfields, Operand8.ofCode_code]

theorem primaryEntry_aluInstr (hk : k < 8) (o : Operand8) :
    primaryEntry (BitVec.ofNat 8 (0x80 + 8 * k + o.code)) = .plain (aluInstr (AluOp.ofCode k) o) := by
  have hfields := fields_of_pattern (v := 0x80 + 8 * k + o.code) (x := 2) rfl (by decide) hk o.code_lt
  simp only [primaryEntry, hfields, Operand8.ofCode_code]

theorem primaryEntry_incInstr (o : Operand8) :
    primaryEntry (BitVec.ofNat 8 (0x04 + 8 * o.code)) = .plain (incInstr o) := by
  have hfields := fields_of_pattern (v := 0x04 + 8 * o.code) (x := 0) (z := 4) (by omega) (by decide) o.code_lt
    (by decide)
  simp only [primaryEntry, entryLow, hfields, Operand8.ofCode_code]

theorem primaryEntry_decInstr (o : Operand8) :
    primaryEntry (BitVec.ofNat 8 (0x05 + 8 * o.code)) = .plain (decInstr o) := by
  have hfields := fields_of_pattern (v := 0x05 + 8 * o.code) (x := 0) (z := 5) (by omega) (by decide) o.code_lt
    (by decide)
  simp only [primaryEntry, entryLow, hfields, Operand8.ofCode_code]

theorem primaryEntry_ldImmInstr (o : Operand8) :
    primaryEntry (BitVec.ofNat 8 (0x06 + 8 * o.code)) = .imm8 (ldImmInstr o) := by
  have hfields := fields_of_pattern (v := 0x06 + 8 * o.code) (x := 0) (z := 6) (by omega) (by decide) o.code_lt
    (by decide)
  simp only [primaryEntry, entryLow, hfields, Operand8.ofCode_code]

theorem primaryEntry_aluImmInstr (hk : k < 8) :
    primaryEntry (BitVec.ofNat 8 (0xC6 + 8 * k)) = .imm8 (aluImmInstr (AluOp.ofCode k)) := by
  interval_cases k <;> rfl

theorem primaryEntry_ldPairInstr (hk : k < 4) :
    primaryEntry (BitVec.ofNat 8 (0x01 + 16 * k)) = .imm16 (ldPairInstr (Pair.ofCode k)) := by
  interval_cases k <;> rfl

theorem primaryEntry_incPairInstr (hk : k < 4) :
    primaryEntry (BitVec.ofNat 8 (0x03 + 16 * k)) = .plain (incPairInstr (Pair.ofCode k)) := by
  interval_cases k <;> rfl

theorem primaryEntry_decPairInstr (hk : k < 4) :
    primaryEntry (BitVec.ofNat 8 (0x0B + 16 * k)) = .plain (decPairInstr (Pair.ofCode k)) := by
  interval_cases k <;> rfl

theorem primaryEntry_addHlInstr (hk : k < 4) :
    primaryEntry (BitVec.ofNat 8 (0x09 + 16 * k)) = .plain (addHlInstr (Pair.ofCode k)) := by
  interval_cases k <;> rfl

theorem primaryEntry_storeAInstr (hk : k < 4) :
    primaryEntry (BitVec.ofNat 8 (0x02 + 16 * k)) = .plain (storeAInstr (MemPair.ofCode k)) := by
  interval_cases k <;> rfl

theorem primaryEntry_loadAInstr (hk : k < 4) :
    primaryEntry (BitVec.ofNat 8 (0x0A + 16 * k)) = .plain (loadAInstr (MemPair.ofCode k)) := by
  interval_cases k <;> rfl

theorem primaryEntry_popInstr (hk : k < 4) :
    primaryEntry (BitVec.ofNat 8 (0xC1 + 16 * k)) = .plain (popInstr (StackPair.ofCode k)) := by
  interval_cases k <;> rfl

theorem primaryEntry_pushInstr (hk : k < 4) :
    primaryEntry (BitVec.ofNat 8 (0xC5 + 16 * k)) = .plain (pushInstr (StackPair.ofCode k)) := by
  interval_cases k <;> rfl

theorem primaryEntry_jrInstr (hk : k < 4) :
    primaryEntry (BitVec.ofNat 8 (0x20 + 8 * k)) = .imm8 (jrInstr (Cond.ofCode k)) := by
  interval_cases k <;> rfl

theorem primaryEntry_jpInstr (hk : k < 4) :
    primaryEntry (BitVec.ofNat 8 (0xC2 + 8 * k)) = .imm16 (jpInstr (Cond.ofCode k)) := by
  interval_cases k <;> rfl

theorem primaryEntry_callInstr (hk : k < 4) :
    primaryEntry (BitVec.ofNat 8 (0xC4 + 8 * k)) = .imm16 (callInstr (Cond.ofCode k)) := by
  interval_cases k <;> rfl

theorem primaryEntry_retInstr (hk : k < 4) :
    primaryEntry (BitVec.ofNat 8 (0xC0 + 8 * k)) = .plain (retInstr (Cond.ofCode k)) := by
  interval_cases k <;> rfl

theorem primaryEntry_rstInstr (i : Fin 8) :
    primaryEntry (BitVec.ofNat 8 (0xC7 + 8 * i.val)) = .plain (rstInstr i) := by
  fin_cases i <;> rfl

/-! #### The CB table (R93) -/

theorem cbInstr_shiftInstr (hk : k < 8) (o : Operand8) :
    cbInstr (BitVec.ofNat 8 (8 * k + o.code)) = shiftInstr (ShiftOp.ofCode k) o := by
  have hfields := fields_of_pattern (v := 8 * k + o.code) (x := 0) (by omega) (by decide) hk o.code_lt
  simp only [cbInstr, hfields, Operand8.ofCode_code]
end

theorem cbInstr_bitInstr (i : Fin 8) (o : Operand8) :
    cbInstr (BitVec.ofNat 8 (0x40 + 8 * i.val + o.code)) = bitInstr i o := by
  have hfields := fields_of_pattern (v := 0x40 + 8 * i.val + o.code) (x := 1) rfl (by decide) i.isLt o.code_lt
  simp only [cbInstr, hfields, Operand8.ofCode_code, octet_val]

theorem cbInstr_resInstr (i : Fin 8) (o : Operand8) :
    cbInstr (BitVec.ofNat 8 (0x80 + 8 * i.val + o.code)) = resInstr i o := by
  have hfields := fields_of_pattern (v := 0x80 + 8 * i.val + o.code) (x := 2) rfl (by decide) i.isLt o.code_lt
  simp only [cbInstr, hfields, Operand8.ofCode_code, octet_val]

theorem cbInstr_setInstr (i : Fin 8) (o : Operand8) :
    cbInstr (BitVec.ofNat 8 (0xC0 + 8 * i.val + o.code)) = setInstr i o := by
  have hfields := fields_of_pattern (v := 0xC0 + 8 * i.val + o.code) (x := 3) rfl (by decide) i.isLt o.code_lt
  simp only [cbInstr, hfields, Operand8.ofCode_code, octet_val]

/-! ### Every whole instruction is in the tables (R92 to R94) -/

/-- Some opcode's entry makes `i`. -/
def Instr.InTable (i : Instr) : Prop := ∃ op n nn, (primaryEntry op).instr n nn = i

section
variable {op : Byte} {i : Instr}

theorem Instr.InTable.of_plain (h : primaryEntry op = .plain i) : i.InTable :=
  ⟨op, 0#8, 0#16, by rw [h]; rfl⟩

theorem Instr.InTable.of_opcode (h : primaryEntry ((encode i).headD 0#8) = .plain i) : i.InTable := .of_plain h

theorem Instr.InTable.of_imm8 {k : Byte → Instr} (h : primaryEntry op = .imm8 k) (n : Byte) : (k n).InTable :=
  ⟨op, n, 0#16, by rw [h]; rfl⟩

theorem Instr.InTable.of_imm16 {k : Word → Instr} (h : primaryEntry op = .imm16 k) (nn : Word) : (k nn).InTable :=
  ⟨op, 0#8, nn, by rw [h]; rfl⟩

theorem Instr.InTable.of_cb (h : cbInstr op = i) : i.InTable := ⟨0xCB#8, op, 0#16, h⟩
end

theorem Instr.inTable_of_wellFormed (i : Instr) (hi : i.wellFormed = true) : i.InTable := by
  cases i using Instr.byBlock with
  | onlyPrefixCb => nomatch hi
  | ldReg dst src => exact .of_plain (primaryEntry_ldInstr (.reg dst) src)
  | ldStore r => exact .of_plain (primaryEntry_ldInstr .atHl (.reg r))
  | inc o => exact .of_plain (primaryEntry_incInstr o)
  | dec o => exact .of_plain (primaryEntry_decInstr o)
  | ldNow o n => exact .of_imm8 (primaryEntry_ldImmInstr o) n
  | rst k => exact .of_plain (primaryEntry_rstInstr k)
  | bit k o => exact .of_cb (cbInstr_bitInstr k o)
  | res k o => exact .of_cb (cbInstr_resInstr k o)
  | set k o => exact .of_cb (cbInstr_setInstr k o)
  | alu op o => obtain ⟨k, hk, rfl⟩ := op.exists_code; exact .of_plain (primaryEntry_aluInstr hk o)
  | shift op o => obtain ⟨k, hk, rfl⟩ := op.exists_code; exact .of_cb (cbInstr_shiftInstr hk o)
  | aluNow op n => obtain ⟨k, hk, rfl⟩ := op.exists_code; exact .of_imm8 (primaryEntry_aluImmInstr hk) n
  | ldPair p nn => obtain ⟨k, hk, rfl⟩ := p.exists_code; exact .of_imm16 (primaryEntry_ldPairInstr hk) nn
  | incPair p => obtain ⟨k, hk, rfl⟩ := p.exists_code; exact .of_plain (primaryEntry_incPairInstr hk)
  | decPair p => obtain ⟨k, hk, rfl⟩ := p.exists_code; exact .of_plain (primaryEntry_decPairInstr hk)
  | addHl p => obtain ⟨k, hk, rfl⟩ := p.exists_code; exact .of_plain (primaryEntry_addHlInstr hk)
  | storeA p => obtain ⟨k, hk, rfl⟩ := p.exists_code; exact .of_plain (primaryEntry_storeAInstr hk)
  | loadA p => obtain ⟨k, hk, rfl⟩ := p.exists_code; exact .of_plain (primaryEntry_loadAInstr hk)
  | pop p => obtain ⟨k, hk, rfl⟩ := p.exists_code; exact .of_plain (primaryEntry_popInstr hk)
  | push p => obtain ⟨k, hk, rfl⟩ := p.exists_code; exact .of_plain (primaryEntry_pushInstr hk)
  | jrCond cc n => obtain ⟨k, hk, rfl⟩ := cc.exists_code; exact .of_imm8 (primaryEntry_jrInstr hk) n
  | jpCond cc nn => obtain ⟨k, hk, rfl⟩ := cc.exists_code; exact .of_imm16 (primaryEntry_jpInstr hk) nn
  | callCond cc nn => obtain ⟨k, hk, rfl⟩ := cc.exists_code; exact .of_imm16 (primaryEntry_callInstr hk) nn
  | retCond cc => obtain ⟨k, hk, rfl⟩ := cc.exists_code; exact .of_plain (primaryEntry_retInstr hk)
  | onlyJr n => exact .of_imm8 (op := 0x18#8) rfl n
  | onlyLdhAtImmA n => exact .of_imm8 (op := 0xE0#8) rfl n
  | onlyAddSPImm n => exact .of_imm8 (op := 0xE8#8) rfl n
  | onlyLdhAAtImm n => exact .of_imm8 (op := 0xF0#8) rfl n
  | onlyLdHLSPImm n => exact .of_imm8 (op := 0xF8#8) rfl n
  | onlyLdAtImmSP nn => exact .of_imm16 (op := 0x08#8) rfl nn
  | onlyJp nn => exact .of_imm16 (op := 0xC3#8) rfl nn
  | onlyCall nn => exact .of_imm16 (op := 0xCD#8) rfl nn
  | onlyLdAtImmA nn => exact .of_imm16 (op := 0xEA#8) rfl nn
  | onlyLdAAtImm nn => exact .of_imm16 (op := 0xFA#8) rfl nn
  | onlyNop | onlyRlca | onlyRrca | onlyStop | onlyRla | onlyRra | onlyDaa | onlyCpl | onlyScf | onlyCcf | onlyHalt
  | onlyRet | onlyReti | onlyLdAtCA | onlyJpHL | onlyLdAAtC | onlyDi | onlyLdSPHL | onlyEi
  | onlyReservedD3 | onlyReservedDB | onlyReservedDD | onlyReservedE3 | onlyReservedE4 | onlyReservedEB
  | onlyReservedEC | onlyReservedED | onlyReservedF4 | onlyReservedFC | onlyReservedFD =>
    exact .of_opcode rfl

/-- Settles O12: the encoder writes the opcode and operand bytes of an entry that makes the instruction. -/
theorem decodeEncodeRoundTrip : Obligations.DecodeEncodeRoundTrip := by
  intro i rest hi
  obtain ⟨op, n, nn, rfl⟩ := i.inTable_of_wellFormed hi
  rw [encode_primaryEntry]
  exact decode_entry op n nn rest

/-! ### The encoder at each field pattern (R85 to R93) -/

section
variable {op : Byte} {i : Instr}

theorem encode_of_plain (h : primaryEntry op = .plain i) : encode i = [op] := by
  simpa [h, Entry.instr, Entry.operandBytes] using encode_primaryEntry op 0#8 0#16

theorem encode_of_imm8 {k : Byte → Instr} (h : primaryEntry op = .imm8 k) (n : Byte) : encode (k n) = [op, n] := by
  simpa [h, Entry.instr, Entry.operandBytes] using encode_primaryEntry op n 0#16

theorem encode_of_imm16 {k : Word → Instr} (h : primaryEntry op = .imm16 k) (nn : Word) :
    encode (k nn) = [op, loByte nn, hiByte nn] := by
  simpa [h, Entry.instr, Entry.operandBytes] using encode_primaryEntry op 0#8 nn

theorem encode_of_cb (h : cbInstr op = i) : encode i = [0xCB#8, op] := h ▸ encode_cbInstr op
end

/-- Settles O15: each pattern is read off the tables, the single opcodes off the encoder. -/
theorem opcodesFollowTheFieldPatterns : Obligations.OpcodesFollowTheFieldPatterns := by
  refine ⟨fun k o n hk => ⟨?_, ?_, ?_⟩, fun o r n => ⟨?_, ?_, ?_, ?_, ?_⟩,
    fun k n nn hk => ⟨?_, ?_, ?_, ?_, ?_, ?_, ?_, ?_, ?_, ?_, ?_, ?_⟩, fun i o => ⟨?_, ?_, ?_, ?_⟩, fun n nn => ?_⟩
  · exact encode_of_plain (primaryEntry_aluInstr hk o)
  · exact encode_of_imm8 (primaryEntry_aluImmInstr hk) n
  · exact encode_of_cb (cbInstr_shiftInstr hk o)
  · exact encode_of_plain (primaryEntry_incInstr o)
  · exact encode_of_plain (primaryEntry_decInstr o)
  · exact encode_of_imm8 (primaryEntry_ldImmInstr o) n
  · exact encode_of_plain (primaryEntry_ldInstr (.reg r) o)
  · exact encode_of_plain (primaryEntry_ldInstr .atHl (.reg r))
  · exact encode_of_imm16 (primaryEntry_ldPairInstr hk) nn
  · exact encode_of_plain (primaryEntry_incPairInstr hk)
  · exact encode_of_plain (primaryEntry_decPairInstr hk)
  · exact encode_of_plain (primaryEntry_addHlInstr hk)
  · exact encode_of_plain (primaryEntry_storeAInstr hk)
  · exact encode_of_plain (primaryEntry_loadAInstr hk)
  · exact encode_of_plain (primaryEntry_popInstr hk)
  · exact encode_of_plain (primaryEntry_pushInstr hk)
  · exact encode_of_imm8 (primaryEntry_jrInstr hk) n
  · exact encode_of_imm16 (primaryEntry_jpInstr hk) nn
  · exact encode_of_imm16 (primaryEntry_callInstr hk) nn
  · exact encode_of_plain (primaryEntry_retInstr hk)
  · exact encode_of_plain (primaryEntry_rstInstr i)
  · exact encode_of_cb (cbInstr_bitInstr i o)
  · exact encode_of_cb (cbInstr_resInstr i o)
  · exact encode_of_cb (cbInstr_setInstr i o)
  · and_intros <;> rfl

/-! ### The length (R96) -/

/-- The two lists of R96, byte by byte. -/
theorem lengthOf_eq_lists (op : Byte) :
    lengthOf op =
      if op.toNat ∈
          [0x01, 0x11, 0x21, 0x31, 0x08, 0xC2, 0xC3, 0xC4, 0xCA, 0xCC, 0xCD, 0xD2, 0xD4, 0xDA, 0xDC, 0xEA, 0xFA]
      then 3
      else if op.toNat ∈ [0x06, 0x0E, 0x16, 0x1E, 0x26, 0x2E, 0x36, 0x3E, 0x18, 0x20, 0x28, 0x30, 0x38] ∨
          op.toNat ∈ [0xC6, 0xCE, 0xD6, 0xDE, 0xE6, 0xEE, 0xF6, 0xFE, 0xE0, 0xF0, 0xE8, 0xF8, 0xCB]
      then 2
      else 1 := by
  obtain ⟨k, hk, rfl⟩ := Byte.exists_literal op
  interval_cases k <;> rfl

theorem length_operandBytes (op n : Byte) (nn : Word) :
    ((primaryEntry op).operandBytes n nn).length + 1 = lengthOf op := by
  unfold lengthOf; cases primaryEntry op <;> rfl

/-- Settles O16: the decoder takes the opcode and its operand bytes, as many as the opcode's length says. -/
theorem lengthFollowsFirstByte : Obligations.LengthFollowsFirstByte := by
  intro bytes i rest h hi
  rcases decode_eq_ok h with ⟨-, rfl, -⟩ | ⟨op, n, nn, rfl, -⟩
  · nomatch hi
  · have hlength : (op :: (primaryEntry op).operandBytes n nn ++ rest).length = rest.length + lengthOf op := by
      rw [← length_operandBytes op n nn, List.length_append, List.length_cons, Nat.add_comm]
    rw [hlength, lengthOf_eq_lists]
    rfl

/-- Settles O14, word by word. -/
theorem specWordsDecode : Obligations.SpecWordsDecode := by
  and_intros <;> rfl

end Sys2Proof

/-! PROOFS. The step and the decoder: a step runs what the bytes at PC decode to, and only the byte 0x10 can be refused
(R81, R257). -/

namespace Sys2Proof

/-- The byte 0xCB alone is the one term that is no whole instruction (R258). -/
theorem Instr.wellFormed_iff (i : Instr) : i.wellFormed = true ↔ i ≠ .prefixCb := by
  unfold Instr.wellFormed Instr.prefixAlone
  split <;> simp_all

/-- Three bytes are enough for every instruction; the decoder leaves what lies past the opcode's length. -/
theorem decode_three (op n n' : Byte) :
    decode [op, n, n'] = .ok ((primaryEntry op).instr n (wordOf n' n), [op, n, n'].drop (lengthOf op)) := by
  cases h : primaryEntry op <;> simp [decode, lengthOf, h, Entry.instr]

theorem lengthOf_le_three (op : Byte) : lengthOf op ≤ 3 := by
  unfold lengthOf; split <;> decide

/-- Only the byte 0x10 makes STOP. -/
theorem primaryEntry_instr_eq_stop_iff (op n : Byte) (nn : Word) :
    (primaryEntry op).instr n nn = .stop ↔ op = 0x10#8 := by
  constructor
  · intro h
    have hbytes := encode_primaryEntry op n nn
    rw [h] at hbytes
    exact (List.cons.inj hbytes).1.symm
  · rintro rfl; rfl

end Sys2Proof

namespace Sys2Proof.Machine

open Sys2Proof.Claims

/-- The step of an awake block: the instruction of the opcode's entry, run past its bytes, and its cycles reported. -/
theorem awake_step_eq {s : State} (hawake : s.halted = false) :
    step s = report (instrCycles (fetchInstr s.clearBus).1 (fetchInstr s.clearBus).2)
      (exec (fetchInstr s.clearBus).1 (fetchInstr s.clearBus).2) := by
  unfold step; rw [hawake]; rfl

/-- Settles O8: the idle step keeps the state, and four cycles are the default cost of its entry. -/
theorem haltedStepIsIdle : Obligations.HaltedStepIsIdle := fun _ => halted_step_eq

/-- Settles O7: three bytes decode to what the fetch makes of them, and the decoder takes as many as the fetch reads. -/
theorem stepRunsDecodedInstruction : Obligations.StepRunsDecodedInstruction := by
  intro s i rest hawake hdecode
  rw [decode_three] at hdecode
  cases hdecode
  refine ⟨(Instr.wellFormed_iff _).mpr (primaryEntry_instr_ne_prefixCb _ _ _), ?_⟩
  have htaken : 3 - ([s.byteAt s.pc, s.byteAfter 1 (s.pc + 1), s.byteAfter 2 (s.pc + 2)].drop
      (lengthOf (s.byteAt s.pc))).length = lengthOf (s.byteAt s.pc) := by
    rw [List.length_drop]; exact Nat.sub_sub_self (lengthOf_le_three _)
  rw [awake_step_eq hawake, fetchInstr_eq, htaken]
  rfl

/-! ### What a step answers (R81, R257) -/

theorem cbTableRun_completes (op : Byte) (s : State) : ∃ t, cbTableRun op s = .next t := by
  unfold cbTableRun
  dsimp only
  split <;> exact ⟨_, rfl⟩

/-- Every meaning but that of STOP answers a next state. -/
theorem Means.completes {i : Instr} {m : State → Result} (hm : Means i m) (hi : i ≠ .stop) (s : State) :
    ∃ t, m s = .next t := by
  cases hm
  case stop => exact absurd rfl hi
  case prefixCb => exact cbTableRun_completes _ _
  all_goals exact ⟨_, rfl⟩

theorem execStop_completes {s : State} (h : s.cfg.stopPolicy ≠ .refuse) : ∃ t, execStop s = .next t := by
  unfold execStop
  split
  next hrefuse => exact absurd hrefuse h
  all_goals exact ⟨_, rfl⟩

theorem execStop_refused {s : State} (h : s.cfg.stopPolicy = .refuse) : execStop s = .refused .stopNotSpecified := by
  unfold execStop; rw [h]

/-- Every instruction completes, but for STOP under the policy `refuse` (R257, decision D3). -/
theorem exec_completes {i : Instr} {s : State} (h : ¬(i = .stop ∧ s.cfg.stopPolicy = .refuse)) :
    ∃ t, exec i s = .next t := by
  by_cases hi : i = .stop
  · subst hi; exact execStop_completes fun hrefuse => h ⟨rfl, hrefuse⟩
  · exact (exec_means i).completes hi s

theorem fetchInstr_cfg (s : State) : (fetchInstr s).2.cfg = s.cfg := by rw [fetchInstr_eq]; rfl

theorem fetchInstr_eq_stop_iff (s : State) : (fetchInstr s).1 = .stop ↔ s.byteAt s.pc = 0x10#8 := by
  rw [fetchInstr_eq]; exact primaryEntry_instr_eq_stop_iff _ _ _

/-- Settles O9: the fetched instruction is STOP exactly when the byte at PC is 0x10, and only STOP can be refused. -/
theorem stepOutcomeIsTotal : Obligations.StepOutcomeIsTotal := by
  intro s
  have hstop : (fetchInstr s.clearBus).1 = .stop ↔ s.byteAt s.pc = 0x10#8 := fetchInstr_eq_stop_iff s.clearBus
  have hcfg : (fetchInstr s.clearBus).2.cfg = s.cfg := fetchInstr_cfg s.clearBus
  split
  next h =>
    obtain ⟨hawake, hop, hrefuse⟩ := h
    rw [awake_step_eq hawake, hstop.mpr hop]
    exact congrArg (report _) (execStop_refused (hcfg ▸ hrefuse))
  next h =>
    cases hhalted : s.halted with
    | true => exact ⟨_, halted_step_eq hhalted⟩
    | false =>
      rw [← hstop, ← hcfg] at h
      obtain ⟨t, ht⟩ := exec_completes fun hboth => h ⟨hhalted, hboth⟩
      exact ⟨_, by rw [awake_step_eq hhalted, ht]; rfl⟩

end Sys2Proof.Machine

/-! PROOFS. The 8-bit ALU (R110 to R143): the operand, the arithmetic helpers by their numbers, and each instruction of
the block. -/

namespace Sys2Proof.Machine

open Sys2Proof.Claims

/-! ### The operand (R86) -/

/-- What a byte operand answers and leaves, as the statements write it. -/
theorem readOperand_eq_took (o : Operand8) (s : State) : readOperand o s = (operandByte o s, tookOperand o s) := by
  cases o with
  | reg r => exact congrArg (·, s) (s.reg_eq_regByte r 0#8).1
  | atHl => rfl

/-- Taking an operand touches the bus alone. -/
@[simp] theorem tookOperand_a (o : Operand8) (s : State) : (tookOperand o s).a = s.a := by cases o <;> rfl
@[simp] theorem tookOperand_f (o : Operand8) (s : State) : (tookOperand o s).f = s.f := by cases o <;> rfl

@[simp] theorem fc_tookOperand (o : Operand8) (s : State) : fc (tookOperand o s) = fc s := by
  rw [fc, tookOperand_f, fc]

@[simp] theorem subFlags_tookOperand (o : Operand8) (s : State) (x : Byte) (cin : Nat) :
    subFlags (tookOperand o s) x cin = subFlags s x cin := by
  rw [subFlags, tookOperand_a, subFlags]

/-- An operand taken, written back and followed by the flags is an operand rewritten: the flags may as well be
written before the store, which does not see them. -/
theorem writeOperand_rewritten (o : Operand8) (v : Byte) (fl : Flags) (s : State) :
    Rewritten o v (fOf fl.z fl.n fl.h fl.c) s ((writeOperand o v (tookOperand o s)).setFlags fl) := by
  cases o with
  | reg r =>
    have hwrite : (s.setReg r v).setFlags fl = { withReg s r v with f := fOf fl.z fl.n fl.h fl.c } := by
      rw [State.setFlags_eq, (s.reg_eq_regByte r v).2]
    exact hwrite
  | atHl =>
    show StoredByte _ (memWrite8 s.hl v ((didRead s s.hl).setFlags fl)) s.hl v
    rw [State.setFlags_eq]
    exact memWrite8_storedByte _ s.hl v

/-! ### The arithmetic helpers by their numbers (R110, R135, R137) -/

theorem ofInt8_beq_zero (k : Int) : (BitVec.ofInt 8 k == 0#8) = decide (k % 256 = 0) := by
  rw [Bool.eq_iff_iff, beq_iff_eq, decide_eq_true_eq, ← BitVec.toNat_inj, BitVec.toNat_ofInt]
  change (k % 256).toNat = 0 ↔ _
  omega

theorem lowNibble_toNat (v : Byte) : (v &&& 0x0F#8).toNat = v.toNat % 16 := by
  rw [BitVec.toNat_and]
  exact Nat.and_two_pow_sub_one_eq_mod v.toNat 4

theorem lowNibble_beq (v : Byte) {k : Nat} (hk : k < 256) :
    ((v &&& 0x0F#8) == BitVec.ofNat 8 k) = decide (v.toNat % 16 = k) := by
  rw [Bool.eq_iff_iff, beq_iff_eq, decide_eq_true_eq, ← BitVec.toNat_inj, lowNibble_toNat, BitVec.toNat_ofNat,
    Nat.mod_eq_of_lt hk]

theorem add8_eq (a b : Byte) (cin : Bool) :
    add8 a b cin = (BitVec.ofNat 8 (a.toNat + b.toNat + cin.toNat),
      ⟨decide ((a.toNat + b.toNat + cin.toNat) % 256 = 0), false,
       decide (a.toNat % 16 + b.toNat % 16 + cin.toNat > 15), decide (a.toNat + b.toNat + cin.toNat > 255)⟩) := by
  rw [← ofNat8_beq_zero]; rfl

theorem sub8_eq (a b : Byte) (cin : Bool) :
    sub8 a b cin = (BitVec.ofInt 8 ((a.toNat : Int) - b.toNat - cin.toNat),
      ⟨decide (((a.toNat : Int) - b.toNat - cin.toNat) % 256 = 0), true,
       decide (a.toNat % 16 < b.toNat % 16 + cin.toNat), decide (a.toNat < b.toNat + cin.toNat)⟩) := by
  rw [← ofInt8_beq_zero]; rfl

theorem inc8_eq (v : Byte) (old : Flags) :
    inc8 v old = (BitVec.ofNat 8 (v.toNat + 1),
      ⟨decide ((v.toNat + 1) % 256 = 0), false, decide (v.toNat % 16 = 15), old.c⟩) := by
  have hres : v + 1#8 = BitVec.ofNat 8 (v.toNat + 1) := by bv_omega
  rw [inc8, hres, ofNat8_beq_zero, lowNibble_beq v (k := 15) (by decide)]

theorem dec8_eq (v : Byte) (old : Flags) :
    dec8 v old = (BitVec.ofNat 8 (v.toNat + 255),
      ⟨decide (v.toNat = 1), true, decide (v.toNat % 16 = 0), old.c⟩) := by
  have hres : v - 1#8 = BitVec.ofNat 8 (v.toNat + 255) := by bv_omega
  have hzero : decide ((v.toNat + 255) % 256 = 0) = decide (v.toNat = 1) := by
    have := v.isLt
    exact decide_eq_decide.mpr (by omega)
  rw [dec8, hres, ofNat8_beq_zero, hzero, lowNibble_beq v (k := 0) (by decide)]

/-! ### The eight operations on A (R111 to R134) -/

theorem exec_aluInstr_took (op : AluOp) (o : Operand8) (s : State) :
    exec (aluInstr op o) s = .next (aluWith op (operandByte o s) (tookOperand o s)) := by
  rw [exec_aluInstr, aluOn, readOperand_eq_took]

section
variable (s : State) (x : Byte)

/-- Every operation but CP writes A and the flags with what it computes. -/
theorem aluWith_of_ne_cp {op : AluOp} (hop : op ≠ .cp) :
    aluWith op x s =
      ({ s with a := (aluCompute op s.a x (fc s)).1 } : State).setFlags (aluCompute op s.a x (fc s)).2 := by
  cases op with
  | cp => exact absurd rfl hop
  | _ => rfl

theorem aluWith_add : aluWith .add x s = added s x 0 := by
  rw [aluWith_of_ne_cp s x (by decide), aluCompute, add8_eq, State.setFlags_eq]; rfl

theorem aluWith_adc : aluWith .adc x s = added s x (fc s).toNat := by
  rw [aluWith_of_ne_cp s x (by decide), aluCompute, add8_eq, State.setFlags_eq]; rfl

theorem aluWith_sub : aluWith .sub x s = subtracted s x 0 := by
  rw [aluWith_of_ne_cp s x (by decide), aluCompute, sub8_eq, State.setFlags_eq]; rfl

theorem aluWith_sbc : aluWith .sbc x s = subtracted s x (fc s).toNat := by
  rw [aluWith_of_ne_cp s x (by decide), aluCompute, sub8_eq, State.setFlags_eq]; rfl

theorem aluWith_cp : aluWith .cp x s = { s with f := subFlags s x 0 } := by
  show s.setFlags (sub8 s.a x false).2 = _
  rw [sub8_eq, State.setFlags_eq]; rfl

theorem setFlags_logicFlags (v : Byte) (h : Bool) :
    ({ s with a := v } : State).setFlags (logicFlags v h) = logicDone s v h := by
  rw [State.setFlags_eq]; rfl

theorem aluWith_and : aluWith .and x s = logicDone s (s.a &&& x) true := setFlags_logicFlags s _ true
theorem aluWith_xor : aluWith .xor x s = logicDone s (s.a ^^^ x) false := setFlags_logicFlags s _ false
theorem aluWith_or : aluWith .or x s = logicDone s (s.a ||| x) false := setFlags_logicFlags s _ false

end

/-- Settles O21: both forms run the same operation, on the state that has taken its operand. -/
theorem addAdcResult : Obligations.AddAdcResult := by
  intro s o n
  simp only [exec_aluInstr_took, exec_aluImmInstr, aluImm, aluWith_add, aluWith_adc, fc_tookOperand, and_self]

/-- Settles O22, as `addAdcResult`. -/
theorem subSbcResult : Obligations.SubSbcResult := by
  intro s o n
  simp only [exec_aluInstr_took, exec_aluImmInstr, aluImm, aluWith_sub, aluWith_sbc, fc_tookOperand, and_self]

/-- Settles O23, as `addAdcResult`. -/
theorem logicResult : Obligations.LogicResult := by
  intro s o n
  simp only [exec_aluInstr_took, exec_aluImmInstr, aluImm, aluWith_and, aluWith_xor, aluWith_or, tookOperand_a,
    and_self]

/-- Settles O24: CP writes the flags of the subtraction on the state that has taken its operand. -/
theorem compareResult : Obligations.CompareResult := by
  intro s o n
  simp only [exec_aluInstr_took, exec_aluImmInstr, aluImm, aluWith_cp, subFlags_tookOperand, and_self]

/-! ### INC and DEC (R135 to R138) -/

/-- Settles O25: the operand is rewritten to what `inc8` computes. -/
theorem incByteResult : Obligations.IncByteResult := by
  intro s o
  refine ⟨_, exec_incInstr s o, ?_⟩
  rw [readOperand_eq_took, inc8_eq]
  exact writeOperand_rewritten o _ ⟨_, _, _, _⟩ s

/-- Settles O26: the operand is rewritten to what `dec8` computes. -/
theorem decByteResult : Obligations.DecByteResult := by
  intro s o
  refine ⟨_, exec_decInstr s o, ?_⟩
  rw [readOperand_eq_took, dec8_eq]
  exact writeOperand_rewritten o _ ⟨_, _, _, _⟩ s

/-! ### CPL, SCF and CCF (R141 to R143) -/

theorem xor_ones_eq_ofNat (v : Byte) : v ^^^ 0xFF#8 = BitVec.ofNat 8 (255 - v.toNat) := by
  apply BitVec.eq_of_toNat_eq
  have hnot : v ^^^ 0xFF#8 = ~~~v := BitVec.xor_allOnes
  have := v.isLt
  rw [hnot, BitVec.toNat_not, BitVec.toNat_ofNat]
  omega

/-- Settles O29: each writes the flags it names and keeps the others. -/
theorem complementAndCarryResult : Obligations.ComplementAndCarryResult := by
  intro s
  refine ⟨⟨rfl, rfl, rfl⟩, ?_, ?_, ?_⟩
  · show execCpl s = _
    rw [execCpl, xor_ones_eq_ofNat, State.setFlags_eq]; rfl
  · exact congrArg Host.Outcome.next (s.setFlags_eq _)
  · exact congrArg Host.Outcome.next (s.setFlags_eq _)

/-! ### DAA (R140) -/

/-- Whether DAA corrects the low digit of the accumulator `a` (R140). -/
def daaLow (mode : DaaSubMode) (a : Nat) (fl : Flags) : Bool :=
  fl.h || ((!fl.n || decide (mode = .sameConditions)) && decide (a % 16 > 9))

/-- Whether DAA corrects the high digit, which is also its carry (R140). -/
def daaHigh (mode : DaaSubMode) (a : Nat) (fl : Flags) : Bool :=
  fl.c || ((!fl.n || decide (mode = .sameConditions)) && decide (a > 0x99))

/-- The accumulator `a` corrected by 0x06 and 0x60, after a subtraction (`n`) downwards (R140). -/
def daaNumber (n : Bool) (a : Nat) (low high : Bool) : Nat :=
  let corr := (if low then 0x06 else 0) + (if high then 0x60 else 0)
  (if n then a + 256 - corr else a + corr) % 256

section
variable (mode : DaaSubMode) (a : Byte) (fl : Flags)

theorem daaAdjust_fst :
    (daaAdjust mode a fl).1 =
      BitVec.ofNat 8 (daaNumber fl.n a.toNat (daaLow mode a.toNat fl) (daaHigh mode a.toNat fl)) := by
  have hbyte (low high : Bool) :
      BitVec.ofNat 8 (daaNumber fl.n a.toNat low high) =
        let corr := (if low then 0x06#8 else 0x00#8) + (if high then 0x60#8 else 0x00#8)
        if fl.n then a - corr else a + corr := by
    cases fl.n <;> cases low <;> cases high <;> simp [daaNumber] <;> bv_omega
  rw [hbyte, daaLow, ← lowNibble_toNat]
  rfl

theorem daaAdjust_snd :
    (daaAdjust mode a fl).2 =
      ⟨decide (daaNumber fl.n a.toNat (daaLow mode a.toNat fl) (daaHigh mode a.toNat fl) = 0), fl.n, false,
       daaHigh mode a.toNat fl⟩ := by
  have hzero : ((daaAdjust mode a fl).1 == 0#8) =
      decide (daaNumber fl.n a.toNat (daaLow mode a.toNat fl) (daaHigh mode a.toNat fl) = 0) := by
    rw [daaAdjust_fst, ofNat8_beq_zero, daaNumber, Nat.mod_mod]
  have hcarry : (daaHigh mode a.toNat fl || fl.c) = daaHigh mode a.toNat fl := by
    rw [daaHigh, Bool.or_right_comm, Bool.or_self]
  rw [← hzero, ← hcarry]
  rfl

end

/-- Settles O27: the corrections of `daaAdjust`, with the flags read as bits of F. -/
theorem daaResult : Obligations.DaaResult := by
  intro s
  refine ⟨rfl, ?_⟩
  show daaOn s = _
  rw [daaOn, daaAdjust_fst, daaAdjust_snd, State.setFlags_eq, State.flags_eq_bits]
  simp [daaNumber, daaLow, daaHigh, State.setReg]

/-! ### Decimal arithmetic (R12, R140)

Two decimal bytes are added or subtracted digit by digit: `t` stands for the tens before any carry between the digits
and `u` for the units with the carry in. In a difference each of the two is taken 10 too high, so that it is a natural
number.
-/

section
variable {t u : Nat}

/-- 0x06 carries 10 units, 0x60 drops 10 tens. -/
theorem daaNumber_sum (ht : t < 19) (hu : u < 20) :
    daaNumber false ((16 * t + u) % 256) (decide (10 ≤ u)) (decide (100 ≤ 10 * t + u)) =
      16 * ((10 * t + u) % 100 / 10) + (10 * t + u) % 100 % 10 := by
  have hunits : (10 * t + u) % 100 % 10 = if 10 ≤ u then u - 10 else u := by split_ifs <;> omega
  have htens : (10 * t + u) % 100 / 10 =
      (if 10 ≤ u then t + 1 else t) - (if 100 ≤ 10 * t + u then 10 else 0) := by split_ifs <;> omega
  rw [hunits, htens]
  simp only [daaNumber, decide_eq_true_eq, Bool.false_eq_true, if_false]
  split_ifs <;> omega

/-- After an addition both modes test the digits: each correction is made exactly when its decimal carry is due. -/
theorem daaAdjust_sum (mode : DaaSubMode) (z : Bool) (ht : t < 19) (hu : u < 20) :
    let res := daaAdjust mode (BitVec.ofNat 8 (16 * t + u)) ⟨z, false, decide (u > 15), decide (16 * t + u > 255)⟩
    res.1 = bcd ((10 * t + u) % 100) ∧ res.2.c = decide (100 ≤ 10 * t + u) := by
  dsimp only
  generalize hfl : Flags.mk _ _ _ _ = fl
  have hlow : daaLow mode ((16 * t + u) % 256) fl = decide (10 ≤ u) := by
    rw [← hfl, daaLow, Bool.not_false, Bool.true_or, Bool.true_and, ← Bool.decide_or]
    exact decide_eq_decide.mpr (by omega)
  have hhigh : daaHigh mode ((16 * t + u) % 256) fl = decide (100 ≤ 10 * t + u) := by
    rw [← hfl, daaHigh, Bool.not_false, Bool.true_or, Bool.true_and, ← Bool.decide_or]
    exact decide_eq_decide.mpr (by omega)
  rw [daaAdjust_fst, daaAdjust_snd, BitVec.toNat_ofNat, hlow, hhigh, ← hfl]
  exact ⟨congrArg (BitVec.ofNat 8) (daaNumber_sum ht hu), rfl⟩

/-- 0x06 borrows 10 units, 0x60 borrows 10 tens. -/
theorem daaNumber_difference (ht0 : 0 < t) (ht : t < 20) (hu : u < 20) :
    daaNumber true ((16 * t + u + 86) % 256) (decide (u < 10)) (decide (10 * t + u < 110)) =
      16 * ((10 * t + u + 90) % 100 / 10) + (10 * t + u + 90) % 100 % 10 := by
  have hunits : (10 * t + u + 90) % 100 % 10 = if u < 10 then u else u - 10 := by split_ifs <;> omega
  have htens : (10 * t + u + 90) % 100 / 10 =
      t + (if u < 10 then 9 else 10) - (if 10 * t + u < 110 then 10 else 20) := by split_ifs <;> omega
  rw [hunits, htens]
  simp only [daaNumber, decide_eq_true_eq, if_true]
  split_ifs <;> omega

/-- After a subtraction the flags alone say which corrections are due: the tests of the mode `sameConditions` find
a digit above 9 only where the flag has said so. -/
theorem daaAdjust_difference (mode : DaaSubMode) (z : Bool) (ht0 : 0 < t) (ht : t < 20) (hu : u < 20) :
    let res := daaAdjust mode (BitVec.ofNat 8 (16 * t + u + 86))
      ⟨z, true, decide (u < 10), decide (10 * t + u < 110)⟩
    res.1 = bcd ((10 * t + u + 90) % 100) ∧ res.2.c = decide (10 * t + u < 110) := by
  dsimp only
  generalize hfl : Flags.mk _ _ _ _ = fl
  have hlow : daaLow mode ((16 * t + u + 86) % 256) fl = decide (u < 10) := by
    rw [← hfl, daaLow, Bool.not_true, Bool.false_or, ← Bool.decide_and, ← Bool.decide_or]
    exact decide_eq_decide.mpr (or_iff_left_of_imp fun ⟨_, hdigit⟩ => by omega)
  have hhigh : daaHigh mode ((16 * t + u + 86) % 256) fl = decide (10 * t + u < 110) := by
    rw [← hfl, daaHigh, Bool.not_true, Bool.false_or, ← Bool.decide_and, ← Bool.decide_or]
    exact decide_eq_decide.mpr (or_iff_left_of_imp fun ⟨_, hdigit⟩ => by omega)
  rw [daaAdjust_fst, daaAdjust_snd, BitVec.toNat_ofNat, hlow, hhigh, ← hfl]
  exact ⟨congrArg (BitVec.ofNat 8) (daaNumber_difference ht0 ht hu), rfl⟩

end

theorem exists_digits {m : Nat} (hm : m < 100) : ∃ p q, p < 10 ∧ q < 10 ∧ m = 10 * p + q :=
  ⟨m / 10, m % 10, by omega, by omega, by omega⟩

theorem bcd_toNat {p q : Nat} (hp : p < 10) (hq : q < 10) : (bcd (10 * p + q)).toNat = 16 * p + q := by
  rw [bcd, BitVec.toNat_ofNat]
  omega

section
variable (mode : DaaSubMode) {m n : Nat} (hm : m < 100) (hn : n < 100) (cin : Bool)
include hm hn

/-- DAA after the addition of two decimal bytes leaves the decimal sum and its carry. -/
theorem daaAdjust_add8_bcd :
    let res := daaAdjust mode (add8 (bcd m) (bcd n) cin).1 (add8 (bcd m) (bcd n) cin).2
    res.1 = bcd ((m + n + cin.toNat) % 100) ∧ res.2.c = decide (100 ≤ m + n + cin.toNat) := by
  obtain ⟨p, q, hp, hq, rfl⟩ := exists_digits hm
  obtain ⟨p', q', hp', hq', rfl⟩ := exists_digits hn
  have hcin := cin.toNat_le
  rw [add8_eq, bcd_toNat hp hq, bcd_toNat hp' hq']
  generalize cin.toNat = c at *
  have hunits : (16 * p + q) % 16 + (16 * p' + q') % 16 + c = q + q' + c := by omega
  have hbytes : 16 * p + q + (16 * p' + q') + c = 16 * (p + p') + (q + q' + c) := by omega
  have htotal : 10 * p + q + (10 * p' + q') + c = 10 * (p + p') + (q + q' + c) := by omega
  rw [hunits, hbytes, htotal]
  exact daaAdjust_sum mode _ (by omega) (by omega)

/-- DAA after the subtraction of two decimal bytes leaves the decimal difference and its borrow. -/
theorem daaAdjust_sub8_bcd :
    let res := daaAdjust mode (sub8 (bcd m) (bcd n) cin).1 (sub8 (bcd m) (bcd n) cin).2
    res.1 = bcd ((m + 200 - n - cin.toNat) % 100) ∧ res.2.c = decide (m < n + cin.toNat) := by
  obtain ⟨p, q, hp, hq, rfl⟩ := exists_digits hm
  obtain ⟨p', q', hp', hq', rfl⟩ := exists_digits hn
  have hcin := cin.toNat_le
  rw [sub8_eq, bcd_toNat hp hq, bcd_toNat hp' hq']
  generalize cin.toNat = c at *
  have hbyte : BitVec.ofInt 8 (((16 * p + q : Nat) : Int) - (16 * p' + q' : Nat) - c) =
      BitVec.ofNat 8 (16 * (p + 10 - p') + (q + 10 - q' - c) + 86) := by
    apply BitVec.eq_of_toNat_eq
    rw [BitVec.toNat_ofInt, BitVec.toNat_ofNat]
    omega
  have hlow : decide ((16 * p + q) % 16 < (16 * p' + q') % 16 + c) = decide (q + 10 - q' - c < 10) :=
    decide_eq_decide.mpr (by omega)
  have hborrow : decide (16 * p + q < 16 * p' + q' + c) =
      decide (10 * (p + 10 - p') + (q + 10 - q' - c) < 110) := decide_eq_decide.mpr (by omega)
  have hless : decide (10 * p + q < 10 * p' + q' + c) =
      decide (10 * (p + 10 - p') + (q + 10 - q' - c) < 110) := decide_eq_decide.mpr (by omega)
  have htotal : 10 * p + q + 200 - (10 * p' + q') - c = 10 * (p + 10 - p') + (q + 10 - q' - c) + 90 := by omega
  rw [hbyte, hlow, hborrow, hless, htotal]
  exact daaAdjust_difference mode _ (by omega) (by omega) (by omega)

end

/-- An operation on A other than CP, followed by DAA: A and F.C are those of `daaAdjust` on what the operation
computed. -/
theorem decimalAfter_aluWith {i : Instr} {op : AluOp} {s t : State} {x : Byte} {m : Nat} {carry : Bool}
    (hi : exec i s = .next (aluWith op x t)) (hop : op ≠ .cp)
    (hdaa : ∀ mode, let res := daaAdjust mode (aluCompute op t.a x (fc t)).1 (aluCompute op t.a x (fc t)).2
      res.1 = bcd m ∧ res.2.c = carry) :
    DecimalAfter i s m carry := by
  rw [aluWith_of_ne_cp t x hop] at hi
  obtain ⟨hres, hcarry⟩ := hdaa t.cfg.daaSubMode
  rw [← State.flags_setFlags { t with a := (aluCompute op t.a x (fc t)).1 } (aluCompute op t.a x (fc t)).2]
    at hres hcarry
  exact ⟨_, _, hi, rfl, hres, (congrArg Flags.c (bits_setFlags _ _)).trans hcarry⟩

/-- Settles O28: in every form the operation runs on the operand's byte in a state with the same A and F.C. -/
theorem decimalArithmeticIsCorrect : Obligations.DecimalArithmeticIsCorrect := by
  intro s m n i hm hn ha hform
  obtain ⟨t, hexec, hat, hct⟩ : ∃ t : State, (∀ op, exec (i op) s = .next (aluWith op (bcd n) t)) ∧
      t.a = bcd m ∧ fc t = fc s := by
    rcases hform with ⟨o, ho, rfl⟩ | rfl
    · exact ⟨tookOperand o s, fun op => ho ▸ exec_aluInstr_took op o s, by rw [tookOperand_a, ha],
        fc_tookOperand o s⟩
    · exact ⟨s, fun op => exec_aluImmInstr s op (bcd n), ha, rfl⟩
  have hsub : (m + 100 - n) % 100 = (m + 200 - n - false.toNat) % 100 := by
    rw [Bool.toNat_false]; omega
  refine ⟨decimalAfter_aluWith (hexec .add) (by decide) fun mode => ?_,
    decimalAfter_aluWith (hexec .adc) (by decide) fun mode => ?_,
    decimalAfter_aluWith (hexec .sub) (by decide) fun mode => ?_,
    decimalAfter_aluWith (hexec .sbc) (by decide) fun mode => ?_⟩ <;> rw [hat, hct]
  · exact daaAdjust_add8_bcd mode hm hn false
  · exact daaAdjust_add8_bcd mode hm hn (fc s)
  · rw [hsub]; exact daaAdjust_sub8_bcd mode hm hn false
  · exact daaAdjust_sub8_bcd mode hm hn (fc s)

end Sys2Proof.Machine

/-! PROOFS. The 16-bit arithmetic (R150 to R154, R224): the helpers by their numbers, and each instruction of the
block. -/

namespace Sys2Proof.Machine

open Sys2Proof.Claims

/-! ### The sums by their numbers (R150 to R153) -/

theorem addHl_eq (x y : Word) (old : Flags) :
    addHl x y old = (BitVec.ofNat 16 (x.toNat + y.toNat),
      ⟨old.z, false, decide (x.toNat % 4096 + y.toNat % 4096 > 0xFFF), decide (x.toNat + y.toNat > 0xFFFF)⟩) := rfl

theorem Word.add_one_eq_ofNat (v : Word) : v + 1 = BitVec.ofNat 16 (v.toNat + 1) := BitVec.add_def v 1

theorem Word.sub_one_eq_ofNat (v : Word) : v - 1 = BitVec.ofNat 16 (v.toNat + 65535) := by bv_omega

/-- Adding a sign-extended byte adds its signed value (R153). -/
theorem add_sext16 (sp : Word) (n : Byte) : sp + sext16 n = BitVec.ofInt 16 ((sp.toNat : Int) + n.toInt) := by
  have hsp : BitVec.ofInt 16 (sp.toNat : Int) = sp := by
    rw [BitVec.ofInt_natCast, BitVec.ofNat_toNat, BitVec.setWidth_eq]
  have hn : BitVec.ofInt 16 n.toInt = sext16 n := rfl
  rw [BitVec.ofInt_add, hsp, hn]

theorem addSp_eq (sp : Word) (n : Byte) :
    addSp sp n = (BitVec.ofInt 16 ((sp.toNat : Int) + n.toInt),
      ⟨false, false, decide (sp.toNat % 16 + n.toNat % 16 > 15), decide (sp.toNat % 256 + n.toNat > 255)⟩) := by
  rw [addSp, add_sext16]

/-! ### The instructions -/

/-- Settles O30: HL is written with what `addHl` computes from the pairs as they stand before. -/
theorem addHlResult : Obligations.AddHlResult := by
  intro s p
  rw [exec_addHlInstr, addHlOn, addHl_eq, State.setFlags_eq, (s.pair_eq_pairWord p 0).1, State.flags_eq_bits]
  rfl

/-- Settles O31: the pair's field is written with the sum or difference, and `setPair` writes nothing else. -/
theorem incDecPairResult : Obligations.IncDecPairResult := by
  intro s p
  have hread := (s.pair_eq_pairWord p 0).1
  have hwrite (v : Word) := (s.pair_eq_pairWord p v).2
  constructor
  · rw [exec_incPairInstr, incPairOn, hread, hwrite, Word.add_one_eq_ofNat]
  · rw [exec_decPairInstr, decPairOn, hread, hwrite, Word.sub_one_eq_ofNat]

/-- Settles O32: both instructions write what `addSp` computes, the one to SP and the other to HL. -/
theorem signedSpAddition : Obligations.SignedSpAddition := by
  intro s n
  constructor
  · show addSpOn n s = _
    rw [addSpOn, addSp_eq, State.setFlags_eq]; rfl
  · show ldHlSp n s = _
    rw [ldHlSp, addSp_eq, State.setFlags_eq]; rfl

end Sys2Proof.Machine

/-! PROOFS. The rotates, shifts and bit operations (R160 to R186): the one-bit operations and the bit masks by their
numbers and bits, and each instruction of the block. -/

namespace Sys2Proof.Machine

open Sys2Proof.Claims

/-! ### The eight one-bit operations by their numbers (R160) -/

/-- Two parts of a byte that do not overlap are joined by adding them. -/
theorem or_eq_ofNat {hi lo : Byte} (k : Nat) {m n : Nat} (hhi : hi.toNat = 2 ^ k * m) (hlo : lo.toNat = n)
    (hn : n < 2 ^ k) : hi ||| lo = BitVec.ofNat 8 (2 ^ k * m + n) := by
  apply BitVec.eq_of_toNat_eq
  have hor : (hi ||| lo).toNat = 2 ^ k * m + n := by
    rw [BitVec.toNat_or, hhi, hlo, Nat.two_pow_add_eq_or_of_lt hn]
  rw [BitVec.toNat_ofNat, ← hor, Nat.mod_eq_of_lt (hi ||| lo).isLt]

theorem getLsbD_seven_eq (v : Byte) : v.getLsbD 7 = decide (v.toNat / 128 = 1) := by
  have := v.isLt
  rw [BitVec.getLsbD, Nat.testBit_eq_decide_div_mod_eq]
  exact decide_eq_decide.mpr (by omega)

theorem getLsbD_zero_eq (v : Byte) : v.getLsbD 0 = decide (v.toNat % 2 = 1) := by
  rw [BitVec.getLsbD, Nat.testBit_eq_decide_div_mod_eq, Nat.pow_zero, Nat.div_one]

theorem shiftLeft_toNat (v : Byte) (k : Nat) : (v <<< k).toNat = 2 ^ k * v.toNat % 256 := by
  rw [BitVec.toNat_shiftLeft, Nat.shiftLeft_eq, Nat.mul_comm]

theorem shiftRight_toNat (v : Byte) (k : Nat) : (v >>> k).toNat = v.toNat / 2 ^ k := by
  rw [BitVec.toNat_ushiftRight, Nat.shiftRight_eq_div_pow]

theorem signBit_toNat (v : Byte) : (v &&& 0x80#8).toNat = 2 ^ 7 * (v.toNat / 128) := by
  have hmask : 0x80#8 = BitVec.twoPow 8 7 := rfl
  have := v.isLt
  rw [hmask, BitVec.and_twoPow, getLsbD_seven_eq]
  by_cases h : v.toNat / 128 = 1
  · rw [decide_eq_true h, h]; rfl
  · have hzero : v.toNat / 128 = 0 := by omega
    rw [decide_eq_false h, hzero]; rfl

theorem carryByte_toNat (cin : Bool) : (if cin then 1#8 else 0#8).toNat = cin.toNat := by cases cin <;> rfl

/-- Every one-bit operation fits its result into a byte. -/
theorem shiftSpec_fst_lt (op : ShiftOp) {v cin : Nat} (hv : v < 256) (hcin : cin < 2) :
    (shiftSpec op v cin).1 < 256 := by
  cases op <;> simp only [shiftSpec] <;> omega

/-- The result of a one-bit operation: each one joins what is left of the byte with the bits that come in. -/
theorem shiftCompute_fst (op : ShiftOp) (v : Byte) (cin : Bool) :
    (shiftCompute op v cin).1 = BitVec.ofNat 8 (shiftSpec op v.toNat cin.toNat).1 := by
  have hv := v.isLt
  have hcin := cin.toNat_lt
  have hleft := shiftLeft_toNat v
  have hright := shiftRight_toNat v
  have hcarry := carryByte_toNat cin
  cases op with
  | rlc =>
    show v <<< 1 ||| v >>> 7 = BitVec.ofNat 8 ((2 * v.toNat + v.toNat / 128) % 256)
    rw [or_eq_ofNat 1 (m := v.toNat % 128) (by rw [hleft]; omega) (hright 7) (by omega)]
    congr 1; omega
  | rrc =>
    show v >>> 1 ||| v <<< 7 = BitVec.ofNat 8 (v.toNat / 2 + 128 * (v.toNat % 2))
    rw [BitVec.or_comm, or_eq_ofNat 7 (m := v.toNat % 2) (by rw [hleft]; omega) (hright 1) (by omega)]
    congr 1; omega
  | rl =>
    show v <<< 1 ||| (if cin then 1#8 else 0#8) = BitVec.ofNat 8 ((2 * v.toNat + cin.toNat) % 256)
    rw [or_eq_ofNat 1 (m := v.toNat % 128) (by rw [hleft]; omega) hcarry (by omega)]
    congr 1; omega
  | rr =>
    show v >>> 1 ||| (if cin then 1#8 else 0#8) <<< 7 = BitVec.ofNat 8 (v.toNat / 2 + 128 * cin.toNat)
    rw [BitVec.or_comm, or_eq_ofNat 7 (m := cin.toNat) (by rw [shiftLeft_toNat, hcarry]; omega) (hright 1) (by omega)]
    congr 1; omega
  | sla =>
    show v <<< 1 = BitVec.ofNat 8 (2 ^ 1 * v.toNat % 256)
    rw [← hleft 1, BitVec.ofNat_toNat, BitVec.setWidth_eq]
  | sra =>
    show v >>> 1 ||| v &&& 0x80#8 = BitVec.ofNat 8 (v.toNat / 2 + 128 * (v.toNat / 128))
    rw [BitVec.or_comm, or_eq_ofNat 7 (signBit_toNat v) (hright 1) (by omega)]
    congr 1; omega
  | swap =>
    show v <<< 4 ||| v >>> 4 = BitVec.ofNat 8 (16 * (v.toNat % 16) + v.toNat / 16)
    exact or_eq_ofNat 4 (by rw [hleft]; omega) (hright 4) (by omega)
  | srl =>
    show v >>> 1 = BitVec.ofNat 8 (v.toNat / 2 ^ 1)
    rw [← hright 1, BitVec.ofNat_toNat, BitVec.setWidth_eq]

/-- The carry out of a one-bit operation: the bit at the end it shifts out of, and none for SWAP. -/
theorem shiftCompute_snd (op : ShiftOp) (v : Byte) (cin : Bool) :
    (shiftCompute op v cin).2 = decide ((shiftSpec op v.toNat cin.toNat).2 = 1) := by
  cases op with
  | rlc | rl | sla => exact getLsbD_seven_eq v
  | rrc | rr | sra | srl => exact getLsbD_zero_eq v
  | swap => rfl

theorem shiftFlags_shiftCompute (op : ShiftOp) (v : Byte) (cin : Bool) :
    shiftFlags (shiftCompute op v cin).1 (shiftCompute op v cin).2 =
      ⟨decide ((shiftSpec op v.toNat cin.toNat).1 = 0), false, false,
       decide ((shiftSpec op v.toNat cin.toNat).2 = 1)⟩ := by
  rw [shiftFlags, shiftCompute_fst, shiftCompute_snd, ofNat8_beq_zero,
    Nat.mod_eq_of_lt (shiftSpec_fst_lt op v.isLt cin.toNat_lt)]

/-! ### The rotates and shifts (R161 to R180) -/

theorem rotateA_eq (op : ShiftOp) (s : State) :
    rotateA op s = .next { s with
      a := BitVec.ofNat 8 (shiftSpec op s.a.toNat (fc s).toNat).1
      f := fOf false false false (decide ((shiftSpec op s.a.toNat (fc s).toNat).2 = 1)) } := by
  rw [rotateA, State.setFlags_eq, shiftCompute_fst, shiftCompute_snd, State.flags_eq_bits]; rfl

/-- A CB rotate or shift rewrites its operand, register or byte at HL. -/
theorem exec_shiftInstr_rewritten (op : ShiftOp) (o : Operand8) (s : State) :
    ∃ t, exec (shiftInstr op o) s = .next t ∧
      (let res := shiftSpec op (operandByte o s).toNat (fc s).toNat
       Rewritten o (BitVec.ofNat 8 res.1) (fOf (decide (res.1 = 0)) false false (decide (res.2 = 1))) s t) := by
  refine ⟨_, exec_shiftInstr s op o, ?_⟩
  rw [readOperand_eq_took, shiftFlags_shiftCompute, shiftCompute_fst]
  exact writeOperand_rewritten o _ ⟨_, _, _, _⟩ s

/-- Settles O33: each of the four is the rotate of A by its operation. -/
theorem legacyRotateResult : Obligations.LegacyRotateResult := fun s =>
  ⟨rotateA_eq .rlc s, rotateA_eq .rrc s, rotateA_eq .rl s, rotateA_eq .rr s⟩

/-- Settles O34: a register rewritten is the one next state that the statement writes out. -/
theorem shiftRegisterResult : Obligations.ShiftRegisterResult := by
  intro s op r
  obtain ⟨t, hexec, rfl⟩ := exec_shiftInstr_rewritten op (.reg r) s
  exact hexec

/-- Settles O35: the `(HL)` form of the rewritten operand. -/
theorem shiftMemoryResult : Obligations.ShiftMemoryResult := fun s op =>
  exec_shiftInstr_rewritten op .atHl s

/-! ### The bits of a masked byte (R181 to R186) -/

theorem bitMask_eq_twoPow (i : Fin 8) : bitMask i = BitVec.twoPow 8 i.val := rfl

theorem bitMask_ne_zero (i : Fin 8) : bitMask i ≠ 0#8 := by revert i; decide

/-- The mask of bit `i` holds that bit alone. -/
theorem getLsbD_bitMask (i : Fin 8) (k : Nat) : (bitMask i).getLsbD k = decide (k = i.val) := by
  rw [bitMask_eq_twoPow, BitVec.getLsbD_twoPow, decide_eq_true i.isLt, Bool.true_and]
  exact decide_eq_decide.mpr eq_comm

/-- A byte under the mask of bit `i` is zero exactly if the bit is. -/
theorem and_bitMask_beq_zero (v : Byte) (i : Fin 8) : (v &&& bitMask i == 0#8) = !v.getLsbD i.val := by
  rw [bitMask_eq_twoPow, BitVec.and_twoPow, ← bitMask_eq_twoPow]
  cases v.getLsbD i.val with
  | false => rfl
  | true => exact beq_false_of_ne (bitMask_ne_zero i)

theorem getLsbD_and_not_bitMask (v : Byte) (i : Fin 8) {k : Nat} (hk : k < 8) :
    (v &&& ~~~bitMask i).getLsbD k = if k = i.val then false else v.getLsbD k := by
  rw [BitVec.getLsbD_and, BitVec.getLsbD_not, getLsbD_bitMask]
  by_cases hi : k = i.val <;> simp [hk, hi]

theorem getLsbD_or_bitMask (v : Byte) (i : Fin 8) (k : Nat) :
    (v ||| bitMask i).getLsbD k = if k = i.val then true else v.getLsbD k := by
  rw [BitVec.getLsbD_or, getLsbD_bitMask]
  by_cases hi : k = i.val <;> simp [hi]

/-! ### BIT, RES and SET -/

/-- An operand taken and written back is an operand rewritten, with F as it was. -/
theorem writeOperand_rewritten_keeps_f (o : Operand8) (v : Byte) (s : State) :
    Rewritten o v s.f s (writeOperand o v (tookOperand o s)) := by
  cases o with
  | reg r =>
    show s.setReg r v = { withReg s r v with f := s.f }
    rw [(s.reg_eq_regByte r v).2]
    cases r <;> rfl
  | atHl => exact memWrite8_storedByte (didRead s s.hl) s.hl v

/-- Settles O37: BIT writes its flags on the state that has taken the operand, and nothing back. -/
theorem bitTestResult : Obligations.BitTestResult := by
  intro s i o
  rw [exec_bitInstr, testBit, readOperand_eq_took, State.setFlags_eq, and_bitMask_beq_zero]; rfl

/-- Settles O38: the operand is rewritten to the byte with the one bit masked out or in. -/
theorem resetSetBitResult : Obligations.ResetSetBitResult := by
  intro s i o
  constructor
  · refine ⟨_, _, exec_resInstr s i o, ?_, fun k hk => getLsbD_and_not_bitMask _ i hk⟩
    rw [readOperand_eq_took]
    exact writeOperand_rewritten_keeps_f o _ s
  · refine ⟨_, _, exec_setInstr s i o, ?_, fun k _ => getLsbD_or_bitMask _ i k⟩
    rw [readOperand_eq_took]
    exact writeOperand_rewritten_keeps_f o _ s

end Sys2Proof.Machine

/-! PROOFS. The 8-bit loads and stores (R190 to R209), and the word store, the SP copy and the jump the source never
names (R221, R222, R240): each shared meaning by its state, and each instruction of the block. -/

namespace Sys2Proof.Machine

open Sys2Proof.Claims

/-! ### Moves between operands (R190 to R194) -/

/-- A register written with what it holds already is not changed. -/
theorem withReg_regByte_self (s : State) (r : Reg8) : withReg s r (regByte s r) = s := by cases r <;> rfl

theorem writeOperand_reg (r : Reg8) (v : Byte) (s : State) : writeOperand (.reg r) v s = withReg s r v :=
  (s.reg_eq_regByte r v).2

/-- A move to a register takes the source operand, by a read if it is `(HL)`, before the register is written. -/
theorem exec_ldInstr_reg_took (dst : Reg8) (src : Operand8) (s : State) :
    exec (ldInstr (.reg dst) src) s = .next (withReg (tookOperand src s) dst (operandByte src s)) := by
  rw [exec_ldInstr_reg, ldOn, readOperand_eq_took, writeOperand_reg]

theorem exec_ldInstr_atHl_storedByte (r : Reg8) (s : State) :
    ∃ t, exec (ldInstr .atHl (.reg r)) s = .next t ∧ StoredByte s t s.hl (regByte s r) := by
  rw [exec_ldInstr_store, ldOn, readOperand_eq_took]
  exact ⟨_, rfl, memWrite8_storedByte s s.hl (regByte s r)⟩

/-- Settles O39: each load writes its register, and a self-move writes what the register holds. -/
theorem loadRegisterResult : Obligations.LoadRegisterResult := by
  intro s dst r n
  refine ⟨exec_ldInstr_reg_took dst (.reg r) s, ?_, ?_⟩
  · exact (exec_ldInstr_reg_took dst (.reg dst) s).trans (congrArg _ (withReg_regByte_self s dst))
  · rw [exec_ldImmInstr, ldImmOn, writeOperand_reg]

/-! ### A at an address and through a pair (R195 to R209) -/

theorem storeAAt_storedByte (addr : Word) (s : State) :
    ∃ t, storeAAt addr s = .next t ∧ StoredByte s t addr s.a :=
  ⟨_, rfl, memWrite8_storedByte s addr s.a⟩

theorem loadAAt_eq (addr : Word) (s : State) :
    loadAAt addr s = .next { didRead s addr with a := s.byteAt addr } := rfl

/-- A store through a pair is at the address the pair gave, in the state where HL has moved. -/
theorem exec_storeAInstr_storedByte {p : MemPair} {s u : State} {addr : Word} (h : indirect p s = (addr, u)) :
    ∃ t, exec (storeAInstr p) s = .next t ∧ StoredByte u t addr s.a := by
  rw [exec_storeAInstr, storeAVia, h]
  exact ⟨_, rfl, memWrite8_storedByte u addr s.a⟩

/-- A load through a pair reads at the address the pair gave, in the state where HL has moved. -/
theorem exec_loadAInstr_eq {p : MemPair} {s u : State} {addr : Word} (h : indirect p s = (addr, u)) :
    exec (loadAInstr p) s = .next { didRead u addr with a := u.byteAt addr } := by
  rw [exec_loadAInstr, loadAVia, h]; rfl

/-- HL+ gives the old HL and leaves HL one up, modulo 65536 (R23). -/
theorem indirect_hlInc (s : State) :
    indirect .hlInc s = (s.hl, withPair s .hl (BitVec.ofNat 16 (s.hl.toNat + 1))) := by
  rw [indirect, Word.add_one_eq_ofNat]; rfl

/-- HL- gives the old HL and leaves HL one down, modulo 65536 (R23). -/
theorem indirect_hlDec (s : State) :
    indirect .hlDec s = (s.hl, withPair s .hl (BitVec.ofNat 16 (s.hl.toNat + 65535))) := by
  rw [indirect, Word.sub_one_eq_ofNat]; rfl

/-- Settles O40: HL is an `r8` operand of the moves, and BC and DE are pairs that do not move. -/
theorem accessThroughPairResult : Obligations.AccessThroughPairResult := fun s r n =>
  ⟨exec_ldInstr_reg_took r .atHl s,
    exec_loadAInstr_eq (p := .bc) rfl,
    exec_loadAInstr_eq (p := .de) rfl,
    exec_ldInstr_atHl_storedByte r s,
    ⟨_, exec_ldImmInstr s .atHl n, memWrite8_storedByte s s.hl n⟩,
    exec_storeAInstr_storedByte (p := .bc) rfl,
    exec_storeAInstr_storedByte (p := .de) rfl⟩

/-- Settles O41: the access is at the address HL gave, in the state where HL has moved. -/
theorem hlStepAccessResult : Obligations.HlStepAccessResult := fun s =>
  ⟨exec_storeAInstr_storedByte (indirect_hlInc s),
    exec_storeAInstr_storedByte (indirect_hlDec s),
    exec_loadAInstr_eq (indirect_hlInc s),
    exec_loadAInstr_eq (indirect_hlDec s)⟩

theorem highPage_eq_ofNat (n : Byte) : highPage n = BitVec.ofNat 16 (0xFF00 + n.toNat) := by
  apply BitVec.eq_of_toNat_eq
  have := n.isLt
  simp only [highPage, wordOf_toNat_high_first, BitVec.toNat_ofNat]
  omega

/-- Settles O42: the four forms are the store and the load of A at the address `highPage` of their offset. -/
theorem highPageAccessResult : Obligations.HighPageAccessResult := by
  intro s n
  dsimp only
  rw [← highPage_eq_ofNat n, ← highPage_eq_ofNat s.c]
  exact ⟨⟨storeAAt_storedByte (highPage n) s, storeAAt_storedByte (highPage s.c) s,
    loadAAt_eq (highPage n) s, loadAAt_eq (highPage s.c) s⟩, rfl, rfl, rfl, rfl⟩

/-- Settles O43: A at the immediate address, SP as a word there, and HL copied to SP or PC. -/
theorem suppliedLoadsAndJumpResult : Obligations.SuppliedLoadsAndJumpResult := by
  intro s nn
  refine ⟨storeAAt_storedByte nn s, loadAAt_eq nn s, ⟨_, rfl, memWrite16_storedWord s nn s.sp⟩,
    ?copy, ?jump, ?words⟩
  case copy => rfl
  case jump => rfl
  case words => and_intros <;> rfl

end Sys2Proof.Machine

/-! PROOFS. The 16-bit immediate loads and the stack (R220, R225 to R230): the push and the pop by the states they
leave, the pop that undoes a push, and each instruction of the block. -/

namespace Sys2Proof.Machine

open Sys2Proof.Claims

/-! ### Immediate words (R220) -/

/-- Settles O44: `setPair` writes the fields of the pair and nothing else. -/
theorem loadPairImmediateResult : Obligations.LoadPairImmediateResult := by
  intro s p nn
  rw [exec_ldPairInstr, (s.pair_eq_pairWord p nn).2]
  cases p <;> rfl

/-! ### Push and pop (R225, R226) -/

/-- A push, followed by a jump to `target` as in a call. -/
theorem push16_pushedAndWent (s : State) (v target : Word) :
    PushedAndWent s ((push16 v s).setPc target) v target :=
  ⟨by rw [push16_eq]; rfl, fun x => ram_push16 s v x⟩

theorem pop16_eq_popped (s : State) : pop16 s = (stackTop s, popped s) := pop16_eq s

theorem stackTop_eq_memRead16 (s : State) : stackTop s = (memRead16 s.sp s).1 := by
  rw [memRead16_eq]; rfl

/-- The word a push has left is the one a pop reads. -/
theorem stackTop_push16 {s : State} (hflat : s.attached = .flat) (v : Word) : stackTop (push16 v s) = v := by
  rw [stackTop_eq_memRead16]
  exact memRead16_memWrite16 (s := s.setSp (s.sp - 2)) hflat (s.sp - 2) v

/-- A pop after a push differs from the state before in the memory and the transactions only. -/
theorem popped_push16 {s : State} (hflat : s.attached = .flat) (v : Word) :
    popped (push16 v s) = { s with mem := (push16 v s).mem, bus := (popped (push16 v s)).bus } := by
  have hsp : s.sp - 2 + 2 = s.sp := BitVec.sub_add_cancel s.sp 2
  have hbus : s.attached.skip 2 = s.attached := by rw [hflat]; rfl
  simp only [popped, push16_eq, hsp, hbus]

/-! ### The instructions on a stack pair (R227 to R230) -/

theorem exec_popInstr_popped (p : StackPair) (s : State) :
    exec (popInstr p) s = .next ((popped s).setStackPair p (stackTop s)) := by
  rw [exec_popInstr, popPair, pop16_eq_popped]

/-- Settles O45: PUSH is the push of the pair's word, and PC stays. -/
theorem pushResult : Obligations.PushResult := by
  intro s p
  refine ⟨_, exec_pushInstr s p, ?_⟩
  have hpush := push16_pushedAndWent s (s.stackPair p) s.pc
  cases p <;> exact hpush

/-- Settles O46: POP writes the word on top of the stack to the fields of the pair, the low nibble of F masked out. -/
theorem popResult : Obligations.PopResult := by
  intro s p
  rw [exec_popInstr_popped]
  cases p <;> rfl

/-- A legal F is not changed by the mask that every write to F passes (R25). -/
theorem and_flagMask_eq_self {f : Byte} (h : f &&& 0x0F#8 = 0#8) : f &&& flagMask = f := by
  revert f; decide

/-- A stack pair written with what it holds already is not changed. -/
theorem setStackPair_stackPair_self {s : State} {p : StackPair} (h : p = .af → s.f &&& 0x0F#8 = 0#8) :
    s.setStackPair p (s.stackPair p) = s := by
  cases p with
  | af =>
    have hf : s.f &&& flagMask = s.f := and_flagMask_eq_self (h rfl)
    simp [State.setStackPair, State.setAf, State.stackPair, State.af, State.flagByte, hf]
  | bc => simp [State.setStackPair, State.setBc, State.stackPair, State.bc]
  | de => simp [State.setStackPair, State.setDe, State.stackPair, State.de]
  | hl => simp [State.setStackPair, State.setHl, State.stackPair, State.hl]

/-- The memory and the transactions have no part in a stack pair. -/
theorem setStackPair_with_mem_bus (s : State) (m : Memory) (events : List BusEvent) (p : StackPair) (v : Word) :
    { s with mem := m, bus := events }.setStackPair p v = { s.setStackPair p v with mem := m, bus := events } := by
  cases p <;> rfl

/-- POP after PUSH of the same pair writes back the word that the pair still holds. -/
theorem exec_popInstr_push16 {s : State} {p : StackPair} (hflat : s.attached = .flat)
    (hf : p = .af → s.f &&& 0x0F#8 = 0#8) :
    exec (popInstr p) (push16 (s.stackPair p) s) = .next (popped (push16 (s.stackPair p) s)) := by
  rw [exec_popInstr_popped, stackTop_push16 hflat, popped_push16 hflat, setStackPair_with_mem_bus,
    setStackPair_stackPair_self hf]

/-! ### Call and return (R241, R243) -/

theorem exec_call (nn : Word) (s : State) : exec (.call nn) s = .next ((push16 s.pc s).setPc nn) := rfl

theorem exec_ret_popped (s : State) : exec .ret s = .next { popped s with pc := stackTop s } := by
  show retIf true s = _
  rw [retIf, pop16_eq_popped]; rfl

/-- A push touches no PC, so a jump after it can be thought of as before it. -/
theorem setPc_push16 (v target : Word) (s : State) : (push16 v s).setPc target = push16 v (s.setPc target) := rfl

/-- Settles O47: the pop reads the word the push left, which is the pair's own, or the address after the CALL. -/
theorem stackRoundTrips : Obligations.StackRoundTrips := by
  constructor
  · intro s p hflat hf
    exact ⟨_, _, exec_pushInstr s p, exec_popInstr_push16 hflat hf, popped_push16 hflat _, rfl⟩
  · intro s nn hflat
    refine ⟨_, _, exec_call nn s, exec_ret_popped _, ?_⟩
    have hback : stackTop (push16 s.pc (s.setPc (nn + 1))) = s.pc := stackTop_push16 hflat s.pc
    have hpopped := popped_push16 (s := s.setPc (nn + 1)) hflat s.pc
    rw [← setPc_push16] at hback hpopped
    exact congrArg₂ State.setPc hpopped hback

end Sys2Proof.Machine

/-! PROOFS. Control transfer (R235 to R248): the conditional forms by the condition that F answers, each instruction of
the block, and the step that takes no branch. -/

namespace Sys2Proof.Machine

open Sys2Proof.Claims

/-! ### Conditions (R90) -/

theorem State.cond_eq_condHolds (s : State) (cc : Cond) : s.cond cc = condHolds cc s := by cases cc <;> rfl

/-! A conditional JR, JP, CALL or RET whose condition is false does nothing beyond its fetch (R237, R239, R242,
R244). -/

section
variable {s : State} {cc : Cond}

theorem exec_jrInstr_untaken (huntaken : condHolds cc s = false) (n : Byte) : exec (jrInstr cc n) s = .next s := by
  rw [exec_jrInstr, State.cond_eq_condHolds, huntaken]; rfl

theorem exec_jpInstr_untaken (huntaken : condHolds cc s = false) (nn : Word) : exec (jpInstr cc nn) s = .next s := by
  rw [exec_jpInstr, State.cond_eq_condHolds, huntaken]; rfl

theorem exec_callInstr_untaken (huntaken : condHolds cc s = false) (nn : Word) :
    exec (callInstr cc nn) s = .next s := by
  rw [exec_callInstr, State.cond_eq_condHolds, huntaken]; rfl

theorem exec_retInstr_untaken (huntaken : condHolds cc s = false) : exec (retInstr cc) s = .next s := by
  rw [exec_retInstr, State.cond_eq_condHolds, huntaken]; rfl
end

/-! ### Jumps (R236 to R239) -/

/-- JR: PC alone is written, with the sum of R236 if the branch is taken. -/
theorem jrIf_eq (taken : Bool) (n : Byte) (s : State) :
    jrIf taken n s =
      .next { s with pc := if taken then BitVec.ofInt 16 ((s.pc.toNat : Int) + n.toInt) else s.pc } := by
  rw [jrIf, add_sext16]
  cases taken <;> rfl

theorem jpIf_eq (taken : Bool) (nn : Word) (s : State) :
    jpIf taken nn s = .next { s with pc := if taken then nn else s.pc } := by
  cases taken <;> rfl

/-- Settles O48: the unconditional forms are the taken ones. -/
theorem jumpResult : Obligations.JumpResult := by
  intro s cc n nn
  dsimp only
  rw [exec_jrInstr, exec_jpInstr, State.cond_eq_condHolds]
  exact ⟨jrIf_eq true n s, jrIf_eq _ n s, jpIf_eq true nn s, jpIf_eq _ nn s⟩

/-! ### Calls and returns (R241 to R247) -/

theorem callIf_pushedAndWent (taken : Bool) (nn : Word) (s : State) :
    ∃ t, callIf taken nn s = .next t ∧ if taken then PushedAndWent s t s.pc nn else t = s := by
  cases taken with
  | true => exact ⟨_, rfl, push16_pushedAndWent s s.pc nn⟩
  | false => exact ⟨s, rfl, rfl⟩

theorem restart_pushedAndWent (i : Fin 8) (s : State) :
    ∃ t, restart i s = .next t ∧ PushedAndWent s t s.pc (BitVec.ofNat 16 (8 * i.val)) := by
  rw [restart, Nat.mul_comm]
  exact ⟨_, rfl, push16_pushedAndWent s s.pc _⟩

/-- Settles O49: each form is a push of PC and a jump, or nothing if its condition is false. -/
theorem callAndRestartResult : Obligations.CallAndRestartResult := by
  intro s cc nn i
  rw [exec_callInstr, exec_rstInstr, State.cond_eq_condHolds]
  exact ⟨callIf_pushedAndWent true nn s, callIf_pushedAndWent _ nn s, restart_pushedAndWent i s⟩

theorem retIf_eq (taken : Bool) (s : State) :
    retIf taken s = .next (if taken then { popped s with pc := stackTop s } else s) := by
  rw [retIf, pop16_eq_popped]; rfl

theorem returnFromInterrupt_eq (s : State) :
    returnFromInterrupt s = { popped s with pc := stackTop s, ime := true } := by
  rw [returnFromInterrupt, pop16_eq_popped]; rfl

/-- Settles O50: each form pops PC, RETI sets `ime` besides, and an untaken RET leaves the state. -/
theorem returnResult : Obligations.ReturnResult := by
  intro s cc
  dsimp only
  rw [exec_retInstr, State.cond_eq_condHolds]
  exact ⟨exec_ret_popped s, retIf_eq _ s, congrArg Host.Outcome.next (returnFromInterrupt_eq s)⟩

/-! ### The step of an untaken branch (R248) -/

/-- A step whose instruction does nothing leaves the state after the fetch, the cycles reported. -/
theorem awake_step_eq_afterFetch {s : State} (hawake : s.halted = false)
    (hexec : exec (fetchInstr s.clearBus).1 (fetchInstr s.clearBus).2 = .next (fetchInstr s.clearBus).2) :
    step s = .next { s.clearBus.afterFetch (lengthOf (s.byteAt s.pc)) with cycles := stepCost s } := by
  rw [awake_step_eq hawake, hexec, instrCycles_fetchInstr (s := s.clearBus) hawake, fetchInstr_eq]
  rfl

/-- The four columns of conditional opcodes: how long each is (R96), and that it does nothing with its condition
false. -/
theorem untaken_primaryEntry {k len op : Nat} (hk : k < 4)
    (hop : (op, len) ∈ [(0x20 + 8 * k, 2), (0xC2 + 8 * k, 3), (0xC4 + 8 * k, 3), (0xC0 + 8 * k, 1)]) :
    lengthOf (BitVec.ofNat 8 op) = len ∧
    ∀ (n : Byte) (nn : Word) (s : State), condHolds (Cond.ofCode k) s = false →
      exec ((primaryEntry (BitVec.ofNat 8 op)).instr n nn) s = .next s := by
  simp only [List.mem_cons, List.not_mem_nil, or_false, Prod.mk.injEq] at hop
  unfold lengthOf
  rcases hop with ⟨rfl, rfl⟩ | ⟨rfl, rfl⟩ | ⟨rfl, rfl⟩ | ⟨rfl, rfl⟩
  · rw [primaryEntry_jrInstr hk]
    exact ⟨rfl, fun n _ _ huntaken => exec_jrInstr_untaken huntaken n⟩
  · rw [primaryEntry_jpInstr hk]
    exact ⟨rfl, fun _ nn _ huntaken => exec_jpInstr_untaken huntaken nn⟩
  · rw [primaryEntry_callInstr hk]
    exact ⟨rfl, fun _ nn _ huntaken => exec_callInstr_untaken huntaken nn⟩
  · rw [primaryEntry_retInstr hk]
    exact ⟨rfl, fun _ _ _ huntaken => exec_retInstr_untaken huntaken⟩

/-- Settles O51: the instruction fetched does nothing, so the step is its fetch; a fetch leaves F, and with it the
condition. -/
theorem untakenBranchOnlyAdvances : Obligations.UntakenBranchOnlyAdvances := by
  intro s k len op hawake hk huntaken hop hbyte
  obtain ⟨hlen, hskip⟩ := untaken_primaryEntry hk hop
  rw [← hbyte] at hlen hskip
  have hfetched : condHolds (Cond.ofCode k) (s.clearBus.afterFetch (lengthOf (s.byteAt s.pc))) = false := huntaken
  have hexec : exec (fetchInstr s.clearBus).1 (fetchInstr s.clearBus).2 = .next (fetchInstr s.clearBus).2 := by
    rw [fetchInstr_eq]; exact hskip _ _ _ hfetched
  refine ⟨stepCost s, ?_⟩
  rw [awake_step_eq_afterFetch hawake hexec, hlen]
  rfl

end Sys2Proof.Machine

/-! PROOFS. The system instructions and the prefix (R255 to R263): the prefix runs the instruction of the CB table that
its next byte selects, and each of the others writes one bit at most. -/

namespace Sys2Proof.Machine

open Sys2Proof.Claims

/-! ### The prefix (R258, decision D9) -/

/-- The CB table run by its fields is the CB-table instruction run: the two read the byte alike (R93). -/
theorem cbTableRun_eq_exec_cbInstr (op : Byte) (s : State) : cbTableRun op s = exec (cbInstr op) s := by
  unfold cbTableRun cbInstr
  generalize op.toNat / 64 = x
  match x with
  | 0 => exact (exec_shiftInstr s _ _).symm
  | 1 => exact (exec_bitInstr s _ _).symm
  | 2 => exact (exec_resInstr s _ _).symm
  | _ + 3 => exact (exec_setInstr s _ _).symm

/-- A byte fetched is a byte read at PC, and PC one further, as the statements write it. -/
theorem fetch8_eq_didRead (s : State) :
    fetch8 s = (s.byteAt s.pc, { didRead s s.pc with pc := s.pc + 1 }) := fetch8_eq s

/-- Settles O17: the prefix fetches the table byte and runs its entry, and every entry of the CB table completes. -/
theorem prefixRunsCbTable : Obligations.PrefixRunsCbTable := by
  intro s
  have hrun : exec .prefixCb s = cbTableRun (fetch8 s).1 (fetch8 s).2 := rfl
  constructor
  · rw [hrun, fetch8_eq_didRead, cbTableRun_eq_exec_cbInstr]
  · rw [hrun]; exact cbTableRun_completes _ _

/-! ### NOP, the reserved bytes, HALT, EI and DI (R255, R256, R259, R260, R263) -/

theorem exec_eq_noOperation {i : Instr} (hi : i ∈ noOps) (s : State) : exec i s = noOperation s := by
  unfold noOps at hi
  fin_cases hi <;> rfl

/-- Settles O52: the twelve are the instructions whose meaning is no operation. -/
theorem nopAndReservedDoNothing : Obligations.NopAndReservedDoNothing := fun s _ hi => exec_eq_noOperation hi s

/-- Settles O53: each of the three meanings is one write of `halted` or `ime`, by definition. -/
theorem haltEiDiResult : Obligations.HaltEiDiResult := fun _ => ⟨rfl, rfl, rfl⟩

/-! ### STOP (R257, decision D3) -/

/-- Settles O54, policy by policy; under `nop2` the one effect is the fetch of a byte. -/
theorem stopFollowsPolicy : Obligations.StopFollowsPolicy := by
  intro s
  refine ⟨rfl, ?_⟩
  change execStop s = _
  unfold execStop
  rw [fetch8_eq_didRead]
  cases s.cfg.stopPolicy with
  | refuse | nop1 | nop2 | halt => rfl

end Sys2Proof.Machine

/-! PROOFS. Exceptions and interrupts (R270 to R282): no step faults, and a RETI undoes an interrupt entry. -/

namespace Sys2Proof.Machine

open Sys2Proof.Claims

/-! ### No exception (R270) -/

/-- Settles O10: a step answers a next state, or is refused in the one case of `stepOutcomeIsTotal`. -/
theorem stepNeverFaults : Obligations.StepNeverFaults := by
  intro s x hfault
  have houtcome := stepOutcomeIsTotal s
  rw [hfault] at houtcome
  split at houtcome
  · cases houtcome
  · obtain ⟨t, ht⟩ := houtcome
    cases ht

/-! ### Interrupt entry and the return from it (R280, R282) -/

/-- The state in which an interrupt entry pushes PC: awake, interrupts disabled, its outputs started. -/
def State.entering (s : State) : State :=
  { s with ime := false, halted := false, bus := [], cycles := costOr s .intEntry 20 }

theorem hostAction_intEntry_of_disabled {s : State} (h : s.ime = false) (v : IntVector) :
    hostAction (.intEntry v) s = none := by
  rw [hostAction, intEntry_eq, h]; rfl

/-- The entry is a push of PC and a jump to the vector, as CALL is; its cost is the one listed, else 20. -/
theorem hostAction_intEntry_of_enabled {s : State} (h : s.ime = true) (v : IntVector) :
    hostAction (.intEntry v) s = some ((push16 s.pc s.entering).setPc v.address) := by
  rw [hostAction, intEntry_eq, h, cycleCost_eq_costOr]; rfl

/-- RETI behind a push of PC and a jump finds that PC on the stack, and differs from the state before the push in `ime`,
the memory and the transactions only. -/
theorem returnFromInterrupt_push16 {s : State} (hflat : s.attached = .flat) (target : Word) :
    returnFromInterrupt ((push16 s.pc s).setPc target) =
      { s with
        ime := true
        mem := (push16 s.pc s).mem
        bus := (popped (push16 s.pc s)).bus } := by
  have hback : stackTop (push16 s.pc (s.setPc target)) = s.pc := stackTop_push16 hflat s.pc
  have hpopped := popped_push16 (s := s.setPc target) hflat s.pc
  rw [returnFromInterrupt_eq, setPc_push16, hback, hpopped]
  rfl

/-- Settles O55: the entry is a push and a jump, and RETI pops what it pushed. -/
theorem wakeAndInterruptEntry : Obligations.WakeAndInterruptEntry := by
  intro s v
  refine ⟨rfl, fun hdisabled => hostAction_intEntry_of_disabled hdisabled v, fun henabled => ?_⟩
  refine ⟨_, hostAction_intEntry_of_enabled henabled v, ?entry, fun hflat => ?back⟩
  case entry =>
    have hentry := push16_pushedAndWent s.entering s.pc v.address
    cases v <;> exact hentry
  case back =>
    exact ⟨_, congrArg Host.Outcome.next (returnFromInterrupt_push16 (s := s.entering) hflat v.address), rfl⟩

end Sys2Proof.Machine

/-! PROOFS. What the rules imply together: the first fetch after Reset (R301), and the rotates that undo each other
(R160, conflict C10). -/

namespace Sys2Proof.Machine

open Sys2Proof.Claims

/-! ### The first fetch of a step (R60, R301) -/

/-- A fetch of one byte or more begins with the byte at PC, whatever comes behind it. -/
theorem fetches_append_head (s : State) {n : Nat} (hn : 1 ≤ n) (events : List BusEvent) :
    (fetches s n ++ events).head? = some (.read s.pc (s.byteAt s.pc)) := by
  cases n with
  | zero => nomatch hn
  | succ n => rfl

/-- The first transaction of an awake step is the read of the opcode at PC: what the instruction does comes behind its
fetch. -/
theorem awake_step_bus_head {s t : State} (hawake : s.halted = false) (ht : step s = .next t) :
    t.bus.head? = some (.read s.pc (s.byteAt s.pc)) := by
  obtain ⟨u, hu, rfl⟩ := awake_step_eq_next hawake ht
  rw [fetchInstr_eq] at hu
  obtain ⟨events, -, hbus⟩ := ((exec_means _).usesBus (primaryEntry_instr_ne_prefixCb _ _ _) hu).busGrows
  exact (congrArg List.head? hbus).trans (fetches_append_head s.clearBus (lengthOf_pos _) events)

/-- Settles O2: Reset leaves the block awake with PC at 0, so its next step fetches there first. -/
theorem resetVectorIsAConstant : Obligations.ResetVectorIsAConstant := by
  intro image s
  have hawake : (hostReset image s).halted = false := rfl
  refine ⟨rfl, fun t ht => awake_step_bus_head hawake ht, fun hflat => ?_⟩
  rw [hostReset, hflat]
  rfl

/-! ### Two one-bit operations in a row, by their numbers (R160) -/

/-- Every one-bit operation shifts out one bit, or none. -/
theorem shiftSpec_snd_lt (op : ShiftOp) {v : Nat} (cin : Nat) (hv : v < 256) : (shiftSpec op v cin).2 < 2 := by
  cases op <;> simp only [shiftSpec] <;> omega

section
variable {v c : Nat} (d : Nat)

/-- RLC moves the top bit to the bottom, from where RRC takes it back. -/
theorem shiftSpec_rrc_rlc (hv : v < 256) : (shiftSpec .rrc (shiftSpec .rlc v c).1 d).1 = v := by
  have hmoved : (2 * v + v / 128) % 256 % 2 = v / 128 := by omega
  simp only [shiftSpec, hmoved]; omega

/-- RRC moves the bottom bit to the top, from where RLC takes it back. -/
theorem shiftSpec_rlc_rrc (hv : v < 256) : (shiftSpec .rlc (shiftSpec .rrc v c).1 d).1 = v := by
  have hmoved : (v / 2 + 128 * (v % 2)) / 128 = v % 2 := by omega
  simp only [shiftSpec, hmoved]; omega

theorem shiftSpec_swap_swap (hv : v < 256) : (shiftSpec .swap (shiftSpec .swap v c).1 d).1 = v := by
  simp only [shiftSpec]; omega

/-- RL rotates the nine bits of carry and byte, and RR rotates them back. -/
theorem shiftSpec_rr_rl (hc : c < 2) :
    shiftSpec .rr (shiftSpec .rl v c).1 (shiftSpec .rl v c).2 = (v, c) := by
  simp only [shiftSpec, Prod.mk.injEq]; omega
end

/-! ### Two one-bit operations in a row on a register -/

/-- A register and F written: that register reads the new byte, every other one what it held. -/
theorem regByte_withReg (s : State) (r q : Reg8) (v f : Byte) :
    regByte { withReg s r v with f := f } q = if q = r then v else regByte s q := by
  cases r <;> cases q <;> rfl

theorem getLsbD_fOf_carry (z n h c : Bool) : (fOf z n h c).getLsbD 4 = c := by
  revert z n h c; decide

theorem toNat_decide_eq_one {c : Nat} (hc : c < 2) : (decide (c = 1)).toNat = c := by
  interval_cases c <;> rfl

/-- What a CB rotate or shift of a register leaves in it and in the carry, by their numbers, and every other register as
it was. -/
theorem exec_shiftInstr_reg (op : ShiftOp) (r : Reg8) (s : State) :
    ∃ t, exec (shiftInstr op (.reg r)) s = .next t ∧
      shiftSpec op (regByte s r).toNat (fc s).toNat = ((regByte t r).toNat, (fc t).toNat) ∧
      ∀ q, q ≠ r → regByte t q = regByte s q := by
  refine ⟨_, shiftRegisterResult s op r, Prod.ext ?byte ?carry, fun q hq => ?others⟩
  case byte =>
    rw [regByte_withReg, if_pos rfl, BitVec.toNat_ofNat]
    exact (Nat.mod_eq_of_lt (shiftSpec_fst_lt op (regByte s r).isLt (fc s).toNat_lt)).symm
  case carry =>
    have hbit := shiftSpec_snd_lt op (fc s).toNat (regByte s r).isLt
    exact ((congrArg Bool.toNat (getLsbD_fOf_carry _ _ _ _)).trans (toNat_decide_eq_one hbit)).symm
  case others =>
    rw [regByte_withReg, if_neg hq]

/-- If the second operation, fed with the result and the carry of the first, answers the register's byte again, then the
two leave every register as it was. -/
theorem exec_shiftInstr_undone {op op' : ShiftOp} {s : State} {r : Reg8} {cout : Nat}
    (hundo : shiftSpec op' (shiftSpec op (regByte s r).toNat (fc s).toNat).1
      (shiftSpec op (regByte s r).toNat (fc s).toNat).2 = ((regByte s r).toNat, cout)) :
    ∃ t u, exec (shiftInstr op (.reg r)) s = .next t ∧ exec (shiftInstr op' (.reg r)) t = .next u ∧
      (∀ q : Reg8, regByte u q = regByte s q) ∧ (fc u).toNat = cout := by
  obtain ⟨t, ht, hfirst, hkept⟩ := exec_shiftInstr_reg op r s
  obtain ⟨u, hu, hsecond, hkept'⟩ := exec_shiftInstr_reg op' r t
  rw [hfirst, hsecond] at hundo
  obtain ⟨hbyte, hcarry⟩ := Prod.mk.inj hundo
  refine ⟨t, u, ht, hu, fun q => ?_, hcarry⟩
  by_cases hq : q = r
  · rw [hq]; exact BitVec.eq_of_toNat_eq hbyte
  · exact (hkept' q hq).trans (hkept q hq)

/-- Settles O36: each pair undoes itself on the numbers, RL and RR with the carry. -/
theorem rotateRoundTrips : Obligations.RotateRoundTrips := by
  intro s r
  have hv := (regByte s r).isLt
  obtain ⟨t₁, u₁, ht₁, hu₁, hkept₁, -⟩ := exec_shiftInstr_undone (Prod.ext (shiftSpec_rrc_rlc _ hv) rfl)
  obtain ⟨t₂, u₂, ht₂, hu₂, hkept₂, -⟩ := exec_shiftInstr_undone (Prod.ext (shiftSpec_rlc_rrc _ hv) rfl)
  obtain ⟨t₃, u₃, ht₃, hu₃, hkept₃, hcarry⟩ :=
    exec_shiftInstr_undone (s := s) (r := r) (shiftSpec_rr_rl (fc s).toNat_lt)
  obtain ⟨t₄, u₄, ht₄, hu₄, hkept₄, -⟩ := exec_shiftInstr_undone (Prod.ext (shiftSpec_swap_swap _ hv) rfl)
  exact ⟨⟨t₁, u₁, ht₁, hu₁, hkept₁⟩, ⟨t₂, u₂, ht₂, hu₂, hkept₂⟩,
    ⟨t₃, u₃, ht₃, hu₃, hkept₃, Function.LeftInverse.injective Bool.ofNat_toNat hcarry⟩, ⟨t₄, u₄, ht₄, hu₄, hkept₄⟩⟩

end Sys2Proof.Machine
